-- ==== Sys2Proof/Word.lean ====
section
/-! DEFINITION. The two word types of the 65CE02: a byte of data (8 bits, D0-D7) and a 16-bit word,
which is also an address (A0-A15). spec/00_scope.md R5, section 5. -/

namespace Sys2Proof

/-- `u8` of spec/00_scope.md section 5: a byte of data, a register, an opcode. -/
abbrev Byte := BitVec 8

/-- `u16` of spec/00_scope.md section 5: an address, the program counter, a 16-bit operand. -/
abbrev Word := BitVec 16

end Sys2Proof
end

