-- ==== Sys2Proof/Config.lean ====
section
/-! DEFINITION. What an implementation or a platform fixes (the parameters of
spec/92_eei_decisions.md, last table), and the free values: constants with no body for what the
spec leaves without a value (spec/93_implementation_defined.md, "any value"). -/

namespace Sys2Proof

/-- `PHW_ORDER`, decision D8 (R264): which byte of the word PHW pushes first. -/
inductive PhwOrder where
  | highFirst
  | lowFirst
deriving DecidableEq, Repr

/-- `TRAP_CLEARS_D`, decision D4 (R352): what trap entry does to D. -/
inductive TrapClearsD where
  | cleared
  | unchanged
  | unspecified
deriving DecidableEq, Repr

/-- `RTN_ORDER`, decision D25 (R166). -/
inductive RtnOrder where
  | pullThenAdjust
  | adjustThenPull
deriving DecidableEq, Repr

/-- What answers an address, decision D29 (R62, R63, R69). -/
inductive Answer where
  /-- Plain memory: a read gives the byte last written, a write stores. -/
  | ram
  /-- Reads as plain memory; writes are ignored. -/
  | rom
  /-- A device: its answer is the platform's (log 9). -/
  | device
  /-- Nothing answers: a read gives any value, fresh at every read; writes are ignored (D28, U2). -/
  | nothing
deriving DecidableEq, Repr

/-- One region of the platform's map: `size` addresses from `base`. -/
structure Region where
  base   : Nat
  size   : Nat
  answer : Answer
deriving DecidableEq, Repr

/-- `MemMap`, decision D29: the first region that holds an address decides; an address in no region
is RAM (DESIGN CHOICE, log 5). -/
abbrev MemMap := List Region

/-- The parameters of spec/92_eei_decisions.md that are left OPEN and have finitely described values.
`DECIMAL_V` and `DECIMAL_INVALID` are the free values below; no rule depends on `CLOCK_GRADE`. -/
structure Params where
  phwOrder         : PhwOrder
  pullPWritesE     : Bool
  trapClearsD      : TrapClearsD
  stackRelPageWrap : Bool
  rtnOrder         : RtnOrder
  memMap           : MemMap
deriving DecidableEq, Repr

/-- The defaults of the table "Parameters in one place" of spec/92_eei_decisions.md. -/
def Params.specDefault : Params where
  phwOrder         := .highFirst
  pullPWritesE     := false
  trapClearsD      := .cleared
  stackRelPageWrap := true
  rtnOrder         := .pullThenAdjust
  memMap           := []

/-- `CLOCK_GRADE`, R1, R394: the speed grades. No rule of the machine reads it. -/
inductive ClockGrade where
  | mhz2
  | mhz4
  | mhz6
  | mhz8
  | mhz10
deriving DecidableEq, Repr

/-- Minimum `tCYC` in nanoseconds, R394. -/
def ClockGrade.minCycleNs : ClockGrade → Nat
  | .mhz2  => 500
  | .mhz4  => 250
  | .mhz6  => 167
  | .mhz8  => 125
  | .mhz10 => 100

/-- Length of the reset initialisation in clock cycles, R381, R395. -/
def Config.resetCycles : Nat := 6

/-- The accesses one instruction or sequence can make. Each makes its own in the order of this list (R67:
instruction bytes, pointer, data reads, data writes; PHW ABS reads its source word before its pushes,
JSR indirect pushes before it reads its pointer, a trap pushes before it reads the vector). A slot names
one bus cycle of a step: it tells apart the reads that nothing answers, and says between which two cycles
RDY halts the processor (R66, R73). -/
inductive BusSlot where
  | opcode
  | operand1
  | operand2
  | operand3
  | sourceLo
  | sourceHi
  | push1
  | push2
  | push3
  | pull1
  | pull2
  | pull3
  | pointerLo
  | pointerHi
  | dataLo
  | dataHi
  | writeLo
  | writeHi
  | vectorLo
  | vectorHi
deriving DecidableEq, Repr

/-! ## Free values

Each is applied to the counter `State.tick`, so each step and each input has fresh ones. -/

/-- D28, U2: what a read cycle takes from the bus where nothing answers. -/
opaque Config.floatingByte : Nat → BusSlot → Word → Byte

/-- R62: a device's answer to a read cycle (the platform's; log 9). -/
opaque Config.deviceByte : Nat → BusSlot → Word → Byte

/-- `DECIMAL_V`, D14, U5: V after a decimal addition (`false`) or subtraction (`true`) of the
accumulator, the operand and the carry. -/
opaque Config.decimalV : Nat → Bool → Byte → Byte → Bool → Bool

/-- `DECIMAL_INVALID`, D14, U5: the result when a digit exceeds 9. -/
opaque Config.invalidBcdA : Nat → Bool → Byte → Byte → Bool → Byte

/-- `DECIMAL_INVALID`: N when a digit exceeds 9. -/
opaque Config.invalidBcdN : Nat → Bool → Byte → Byte → Bool → Bool

/-- `DECIMAL_INVALID`: V when a digit exceeds 9. -/
opaque Config.invalidBcdV : Nat → Bool → Byte → Byte → Bool → Bool

/-- `DECIMAL_INVALID`: the zero flag when a digit exceeds 9. -/
opaque Config.invalidBcdZ : Nat → Bool → Byte → Byte → Bool → Bool

/-- `DECIMAL_INVALID`: C when a digit exceeds 9. -/
opaque Config.invalidBcdC : Nat → Bool → Byte → Byte → Bool → Bool

/-- D4: D after trap entry under `TRAP_CLEARS_D` = unspecified. -/
opaque Config.trapD : Nat → Bool

/-- R44, U1: A after the reset sequence. -/
opaque Config.resetA : Nat → Byte

/-- R44, U1: X after the reset sequence. -/
opaque Config.resetX : Nat → Byte

/-- R44, U1: Y after the reset sequence. -/
opaque Config.resetY : Nat → Byte

/-- R44, U1, D20: SPL after the reset sequence. -/
opaque Config.resetSpl : Nat → Byte

/-- R44, U1: N after the reset sequence. -/
opaque Config.resetN : Nat → Bool

/-- R44, U1: V after the reset sequence. -/
opaque Config.resetV : Nat → Bool

/-- R44, U1: D after the reset sequence. -/
opaque Config.resetD : Nat → Bool

/-- R44, U1: the zero flag after the reset sequence. -/
opaque Config.resetZ : Nat → Bool

/-- R44, U1: C after the reset sequence. -/
opaque Config.resetC : Nat → Bool

/-- R44, U1: the NMI pending latch after the reset sequence. -/
opaque Config.resetNmi : Nat → Bool

/-- R364: whether an NMI edge during standby (clock stopped) is latched. -/
opaque Config.standbyNmi : Nat → Bool

/-- R42 against R346: whether an SO edge while RDY is low reaches V (log 14). -/
opaque Config.haltedSo : Nat → Bool

/-- D30, R383: whether a byte that an instruction abandoned by RES was to write keeps its old value. -/
opaque Config.keepsOldByte : Nat → Nat → Bool

end Sys2Proof
end

