-- ==== Sys2Proof/Syntax.lean ====
section
/-! DEFINITION. The syntax of the 65CE02: one constructor of `Instr` for each of the 256 rows of
spec/opcode_table.json (spec/30_encoding.md R95): first, in the order of the matrix, those with
operand bytes, then those of one byte (Lean's runtime numbers no more than 244 constructors that carry
data). A constructor's
name is the mnemonic and, where a mnemonic has several rows, the addressing mode. Its arguments are
the operand bytes of R91, R94: a byte for `op8` (and `op8b` of BP REL), a word for `op16`; the bytes
that BRK and AUG fetch and ignore are kept, so that every encoding is the encoding of one term. -/

namespace Sys2Proof

/-- The addressing modes by their names in the matrix, R99: the eighteen, `immW` (PHW's 16-bit
immediate, not a nineteenth mode) and `aug` (AUG, which has no mode). -/
inductive Mode where
  /-- IMPLIED, R124. -/
  | implied
  /-- ACCUM, R123. -/
  | accum
  /-- IMM, R121. -/
  | imm
  /-- IMM W, R121. -/
  | immW
  /-- BP, R122. -/
  | bp
  /-- BP,X, R125. -/
  | bpX
  /-- BP,Y, R126. -/
  | bpY
  /-- ABS, R127. -/
  | abs
  /-- ABS,X, R128. -/
  | absX
  /-- ABS,Y, R129. -/
  | absY
  /-- (BP,X), R130. -/
  | bpXInd
  /-- (BP),Y, R131. -/
  | bpIndY
  /-- (BP),Z, R132. -/
  | bpIndZ
  /-- (D,SP),Y, R133. -/
  | spIndY
  /-- REL, R134. -/
  | rel
  /-- W REL, R135. -/
  | wrel
  /-- BP REL, R138. -/
  | bpRel
  /-- (ABS), R136. -/
  | absInd
  /-- (ABS,X), R137. -/
  | absXInd
  /-- AUG, R321. -/
  | aug
deriving DecidableEq, Repr

/-- The 256 instructions. -/
inductive Instr where
  /-- 00 BRK IMPLIED; R322. -/
  | brk (sig : Byte)
  /-- 01 ORA (BP,X); R197. -/
  | oraBpXInd (d : Byte)
  /-- 04 TSB BP; R222. -/
  | tsbBp (d : Byte)
  /-- 05 ORA BP; R197. -/
  | oraBp (d : Byte)
  /-- 06 ASL BP; R215. -/
  | aslBp (d : Byte)
  /-- 07 RMB0 BP; R224. -/
  | rmb0 (d : Byte)
  /-- 09 ORA IMM; R197. -/
  | oraImm (m : Byte)
  /-- 0C TSB ABS; R222. -/
  | tsbAbs (w : Word)
  /-- 0D ORA ABS; R197. -/
  | oraAbs (w : Word)
  /-- 0E ASL ABS; R215. -/
  | aslAbs (w : Word)
  /-- 0F BBR0 BP REL; R160. -/
  | bbr0 (d : Byte) (r : Byte)
  /-- 10 BPL REL; R156. -/
  | bplRel (r : Byte)
  /-- 11 ORA (BP),Y; R197. -/
  | oraBpIndY (d : Byte)
  /-- 12 ORA (BP),Z; R197. -/
  | oraBpIndZ (d : Byte)
  /-- 13 BPL W REL; R156. -/
  | bplWrel (w : Word)
  /-- 14 TRB BP; R223. -/
  | trbBp (d : Byte)
  /-- 15 ORA BP,X; R197. -/
  | oraBpX (d : Byte)
  /-- 16 ASL BP,X; R215. -/
  | aslBpX (d : Byte)
  /-- 17 RMB1 BP; R224. -/
  | rmb1 (d : Byte)
  /-- 19 ORA ABS,Y; R197. -/
  | oraAbsY (w : Word)
  /-- 1C TRB ABS; R223. -/
  | trbAbs (w : Word)
  /-- 1D ORA ABS,X; R197. -/
  | oraAbsX (w : Word)
  /-- 1E ASL ABS,X; R215. -/
  | aslAbsX (w : Word)
  /-- 1F BBR1 BP REL; R160. -/
  | bbr1 (d : Byte) (r : Byte)
  /-- 20 JSR ABS; R164. -/
  | jsrAbs (w : Word)
  /-- 21 AND (BP,X); R196. -/
  | andBpXInd (d : Byte)
  /-- 22 JSR (ABS); R164. -/
  | jsrAbsInd (w : Word)
  /-- 23 JSR (ABS,X); R164. -/
  | jsrAbsXInd (w : Word)
  /-- 24 BIT BP; R199. -/
  | bitBp (d : Byte)
  /-- 25 AND BP; R196. -/
  | andBp (d : Byte)
  /-- 26 ROL BP; R218. -/
  | rolBp (d : Byte)
  /-- 27 RMB2 BP; R224. -/
  | rmb2 (d : Byte)
  /-- 29 AND IMM; R196. -/
  | andImm (m : Byte)
  /-- 2C BIT ABS; R199. -/
  | bitAbs (w : Word)
  /-- 2D AND ABS; R196. -/
  | andAbs (w : Word)
  /-- 2E ROL ABS; R218. -/
  | rolAbs (w : Word)
  /-- 2F BBR2 BP REL; R160. -/
  | bbr2 (d : Byte) (r : Byte)
  /-- 30 BMI REL; R154. -/
  | bmiRel (r : Byte)
  /-- 31 AND (BP),Y; R196. -/
  | andBpIndY (d : Byte)
  /-- 32 AND (BP),Z; R196. -/
  | andBpIndZ (d : Byte)
  /-- 33 BMI W REL; R154. -/
  | bmiWrel (w : Word)
  /-- 34 BIT BP,X; R199. -/
  | bitBpX (d : Byte)
  /-- 35 AND BP,X; R196. -/
  | andBpX (d : Byte)
  /-- 36 ROL BP,X; R218. -/
  | rolBpX (d : Byte)
  /-- 37 RMB3 BP; R224. -/
  | rmb3 (d : Byte)
  /-- 39 AND ABS,Y; R196. -/
  | andAbsY (w : Word)
  /-- 3C BIT ABS,X; R199. -/
  | bitAbsX (w : Word)
  /-- 3D AND ABS,X; R196. -/
  | andAbsX (w : Word)
  /-- 3E ROL ABS,X; R218. -/
  | rolAbsX (w : Word)
  /-- 3F BBR3 BP REL; R160. -/
  | bbr3 (d : Byte) (r : Byte)
  /-- 41 EOR (BP,X); R198. -/
  | eorBpXInd (d : Byte)
  /-- 44 ASR BP; R217. -/
  | asrBp (d : Byte)
  /-- 45 EOR BP; R198. -/
  | eorBp (d : Byte)
  /-- 46 LSR BP; R216. -/
  | lsrBp (d : Byte)
  /-- 47 RMB4 BP; R224. -/
  | rmb4 (d : Byte)
  /-- 49 EOR IMM; R198. -/
  | eorImm (m : Byte)
  /-- 4C JMP ABS; R163. -/
  | jmpAbs (w : Word)
  /-- 4D EOR ABS; R198. -/
  | eorAbs (w : Word)
  /-- 4E LSR ABS; R216. -/
  | lsrAbs (w : Word)
  /-- 4F BBR4 BP REL; R160. -/
  | bbr4 (d : Byte) (r : Byte)
  /-- 50 BVC REL; R157. -/
  | bvcRel (r : Byte)
  /-- 51 EOR (BP),Y; R198. -/
  | eorBpIndY (d : Byte)
  /-- 52 EOR (BP),Z; R198. -/
  | eorBpIndZ (d : Byte)
  /-- 53 BVC W REL; R157. -/
  | bvcWrel (w : Word)
  /-- 54 ASR BP,X; R217. -/
  | asrBpX (d : Byte)
  /-- 55 EOR BP,X; R198. -/
  | eorBpX (d : Byte)
  /-- 56 LSR BP,X; R216. -/
  | lsrBpX (d : Byte)
  /-- 57 RMB5 BP; R224. -/
  | rmb5 (d : Byte)
  /-- 59 EOR ABS,Y; R198. -/
  | eorAbsY (w : Word)
  /-- 5C AUG (none; 3 ignored bytes); R321. -/
  | aug (b1 : Byte) (b2 : Byte) (b3 : Byte)
  /-- 5D EOR ABS,X; R198. -/
  | eorAbsX (w : Word)
  /-- 5E LSR ABS,X; R216. -/
  | lsrAbsX (w : Word)
  /-- 5F BBR5 BP REL; R160. -/
  | bbr5 (d : Byte) (r : Byte)
  /-- 61 ADC (BP,X); R194. -/
  | adcBpXInd (d : Byte)
  /-- 62 RTN IMM; R166. -/
  | rtn (n : Byte)
  /-- 63 BSR W REL; R162. -/
  | bsr (w : Word)
  /-- 64 STZ BP; R258. -/
  | stzBp (d : Byte)
  /-- 65 ADC BP; R194. -/
  | adcBp (d : Byte)
  /-- 66 ROR BP; R219. -/
  | rorBp (d : Byte)
  /-- 67 RMB6 BP; R224. -/
  | rmb6 (d : Byte)
  /-- 69 ADC IMM; R194. -/
  | adcImm (m : Byte)
  /-- 6C JMP (ABS); R163. -/
  | jmpAbsInd (w : Word)
  /-- 6D ADC ABS; R194. -/
  | adcAbs (w : Word)
  /-- 6E ROR ABS; R219. -/
  | rorAbs (w : Word)
  /-- 6F BBR6 BP REL; R160. -/
  | bbr6 (d : Byte) (r : Byte)
  /-- 70 BVS REL; R158. -/
  | bvsRel (r : Byte)
  /-- 71 ADC (BP),Y; R194. -/
  | adcBpIndY (d : Byte)
  /-- 72 ADC (BP),Z; R194. -/
  | adcBpIndZ (d : Byte)
  /-- 73 BVS W REL; R158. -/
  | bvsWrel (w : Word)
  /-- 74 STZ BP,X; R258. -/
  | stzBpX (d : Byte)
  /-- 75 ADC BP,X; R194. -/
  | adcBpX (d : Byte)
  /-- 76 ROR BP,X; R219. -/
  | rorBpX (d : Byte)
  /-- 77 RMB7 BP; R224. -/
  | rmb7 (d : Byte)
  /-- 79 ADC ABS,Y; R194. -/
  | adcAbsY (w : Word)
  /-- 7C JMP (ABS,X); R163. -/
  | jmpAbsXInd (w : Word)
  /-- 7D ADC ABS,X; R194. -/
  | adcAbsX (w : Word)
  /-- 7E ROR ABS,X; R219. -/
  | rorAbsX (w : Word)
  /-- 7F BBR7 BP REL; R160. -/
  | bbr7 (d : Byte) (r : Byte)
  /-- 80 BRU REL; R159. -/
  | bruRel (r : Byte)
  /-- 81 STA (BP,X); R255. -/
  | staBpXInd (d : Byte)
  /-- 82 STA (D,SP),Y; R255. -/
  | staSpIndY (d : Byte)
  /-- 83 BRU W REL; R159. -/
  | bruWrel (w : Word)
  /-- 84 STY BP; R257. -/
  | styBp (d : Byte)
  /-- 85 STA BP; R255. -/
  | staBp (d : Byte)
  /-- 86 STX BP; R256. -/
  | stxBp (d : Byte)
  /-- 87 SMB0 BP; R225. -/
  | smb0 (d : Byte)
  /-- 89 BIT IMM; R199. -/
  | bitImm (m : Byte)
  /-- 8B STY ABS,X; R257. -/
  | styAbsX (w : Word)
  /-- 8C STY ABS; R257. -/
  | styAbs (w : Word)
  /-- 8D STA ABS; R255. -/
  | staAbs (w : Word)
  /-- 8E STX ABS; R256. -/
  | stxAbs (w : Word)
  /-- 8F BBS0 BP REL; R161. -/
  | bbs0 (d : Byte) (r : Byte)
  /-- 90 BCC REL; R151. -/
  | bccRel (r : Byte)
  /-- 91 STA (BP),Y; R255. -/
  | staBpIndY (d : Byte)
  /-- 92 STA (BP),Z; R255. -/
  | staBpIndZ (d : Byte)
  /-- 93 BCC W REL; R151. -/
  | bccWrel (w : Word)
  /-- 94 STY BP,X; R257. -/
  | styBpX (d : Byte)
  /-- 95 STA BP,X; R255. -/
  | staBpX (d : Byte)
  /-- 96 STX BP,Y; R256. -/
  | stxBpY (d : Byte)
  /-- 97 SMB1 BP; R225. -/
  | smb1 (d : Byte)
  /-- 99 STA ABS,Y; R255. -/
  | staAbsY (w : Word)
  /-- 9B STX ABS,Y; R256. -/
  | stxAbsY (w : Word)
  /-- 9C STZ ABS; R258. -/
  | stzAbs (w : Word)
  /-- 9D STA ABS,X; R255. -/
  | staAbsX (w : Word)
  /-- 9E STZ ABS,X; R258. -/
  | stzAbsX (w : Word)
  /-- 9F BBS1 BP REL; R161. -/
  | bbs1 (d : Byte) (r : Byte)
  /-- A0 LDY IMM; R253. -/
  | ldyImm (m : Byte)
  /-- A1 LDA (BP,X); R251. -/
  | ldaBpXInd (d : Byte)
  /-- A2 LDX IMM; R252. -/
  | ldxImm (m : Byte)
  /-- A3 LDZ IMM; R254. -/
  | ldzImm (m : Byte)
  /-- A4 LDY BP; R253. -/
  | ldyBp (d : Byte)
  /-- A5 LDA BP; R251. -/
  | ldaBp (d : Byte)
  /-- A6 LDX BP; R252. -/
  | ldxBp (d : Byte)
  /-- A7 SMB2 BP; R225. -/
  | smb2 (d : Byte)
  /-- A9 LDA IMM; R251. -/
  | ldaImm (m : Byte)
  /-- AB LDZ ABS; R254. -/
  | ldzAbs (w : Word)
  /-- AC LDY ABS; R253. -/
  | ldyAbs (w : Word)
  /-- AD LDA ABS; R251. -/
  | ldaAbs (w : Word)
  /-- AE LDX ABS; R252. -/
  | ldxAbs (w : Word)
  /-- AF BBS2 BP REL; R161. -/
  | bbs2 (d : Byte) (r : Byte)
  /-- B0 BCS REL; R152. -/
  | bcsRel (r : Byte)
  /-- B1 LDA (BP),Y; R251. -/
  | ldaBpIndY (d : Byte)
  /-- B2 LDA (BP),Z; R251. -/
  | ldaBpIndZ (d : Byte)
  /-- B3 BCS W REL; R152. -/
  | bcsWrel (w : Word)
  /-- B4 LDY BP,X; R253. -/
  | ldyBpX (d : Byte)
  /-- B5 LDA BP,X; R251. -/
  | ldaBpX (d : Byte)
  /-- B6 LDX BP,Y; R252. -/
  | ldxBpY (d : Byte)
  /-- B7 SMB3 BP; R225. -/
  | smb3 (d : Byte)
  /-- B9 LDA ABS,Y; R251. -/
  | ldaAbsY (w : Word)
  /-- BB LDZ ABS,X; R254. -/
  | ldzAbsX (w : Word)
  /-- BC LDY ABS,X; R253. -/
  | ldyAbsX (w : Word)
  /-- BD LDA ABS,X; R251. -/
  | ldaAbsX (w : Word)
  /-- BE LDX ABS,Y; R252. -/
  | ldxAbsY (w : Word)
  /-- BF BBS3 BP REL; R161. -/
  | bbs3 (d : Byte) (r : Byte)
  /-- C0 CPY IMM; R202. -/
  | cpyImm (m : Byte)
  /-- C1 CMP (BP,X); R200. -/
  | cmpBpXInd (d : Byte)
  /-- C2 CPZ IMM; R203. -/
  | cpzImm (m : Byte)
  /-- C3 DEW BP; R213. -/
  | dew (d : Byte)
  /-- C4 CPY BP; R202. -/
  | cpyBp (d : Byte)
  /-- C5 CMP BP; R200. -/
  | cmpBp (d : Byte)
  /-- C6 DEC BP; R205. -/
  | decBp (d : Byte)
  /-- C7 SMB4 BP; R225. -/
  | smb4 (d : Byte)
  /-- C9 CMP IMM; R200. -/
  | cmpImm (m : Byte)
  /-- CB ASW ABS; R220. -/
  | asw (w : Word)
  /-- CC CPY ABS; R202. -/
  | cpyAbs (w : Word)
  /-- CD CMP ABS; R200. -/
  | cmpAbs (w : Word)
  /-- CE DEC ABS; R205. -/
  | decAbs (w : Word)
  /-- CF BBS4 BP REL; R161. -/
  | bbs4 (d : Byte) (r : Byte)
  /-- D0 BNE REL; R155. -/
  | bneRel (r : Byte)
  /-- D1 CMP (BP),Y; R200. -/
  | cmpBpIndY (d : Byte)
  /-- D2 CMP (BP),Z; R200. -/
  | cmpBpIndZ (d : Byte)
  /-- D3 BNE W REL; R155. -/
  | bneWrel (w : Word)
  /-- D4 CPZ BP; R203. -/
  | cpzBp (d : Byte)
  /-- D5 CMP BP,X; R200. -/
  | cmpBpX (d : Byte)
  /-- D6 DEC BP,X; R205. -/
  | decBpX (d : Byte)
  /-- D7 SMB5 BP; R225. -/
  | smb5 (d : Byte)
  /-- D9 CMP ABS,Y; R200. -/
  | cmpAbsY (w : Word)
  /-- DC CPZ ABS; R203. -/
  | cpzAbs (w : Word)
  /-- DD CMP ABS,X; R200. -/
  | cmpAbsX (w : Word)
  /-- DE DEC ABS,X; R205. -/
  | decAbsX (w : Word)
  /-- DF BBS5 BP REL; R161. -/
  | bbs5 (d : Byte) (r : Byte)
  /-- E0 CPX IMM; R201. -/
  | cpxImm (m : Byte)
  /-- E1 SBC (BP,X); R195. -/
  | sbcBpXInd (d : Byte)
  /-- E2 LDA (D,SP),Y; R251. -/
  | ldaSpIndY (d : Byte)
  /-- E3 INW BP; R212. -/
  | inw (d : Byte)
  /-- E4 CPX BP; R201. -/
  | cpxBp (d : Byte)
  /-- E5 SBC BP; R195. -/
  | sbcBp (d : Byte)
  /-- E6 INC BP; R204. -/
  | incBp (d : Byte)
  /-- E7 SMB6 BP; R225. -/
  | smb6 (d : Byte)
  /-- E9 SBC IMM; R195. -/
  | sbcImm (m : Byte)
  /-- EB ROW ABS; R221. -/
  | row (w : Word)
  /-- EC CPX ABS; R201. -/
  | cpxAbs (w : Word)
  /-- ED SBC ABS; R195. -/
  | sbcAbs (w : Word)
  /-- EE INC ABS; R204. -/
  | incAbs (w : Word)
  /-- EF BBS6 BP REL; R161. -/
  | bbs6 (d : Byte) (r : Byte)
  /-- F0 BEQ REL; R153. -/
  | beqRel (r : Byte)
  /-- F1 SBC (BP),Y; R195. -/
  | sbcBpIndY (d : Byte)
  /-- F2 SBC (BP),Z; R195. -/
  | sbcBpIndZ (d : Byte)
  /-- F3 BEQ W REL; R153. -/
  | beqWrel (w : Word)
  /-- F4 PHW IMM W; R264. -/
  | phwImmW (w : Word)
  /-- F5 SBC BP,X; R195. -/
  | sbcBpX (d : Byte)
  /-- F6 INC BP,X; R204. -/
  | incBpX (d : Byte)
  /-- F7 SMB7 BP; R225. -/
  | smb7 (d : Byte)
  /-- F9 SBC ABS,Y; R195. -/
  | sbcAbsY (w : Word)
  /-- FC PHW ABS; R264. -/
  | phwAbs (w : Word)
  /-- FD SBC ABS,X; R195. -/
  | sbcAbsX (w : Word)
  /-- FE INC ABS,X; R204. -/
  | incAbsX (w : Word)
  /-- FF BBS7 BP REL; R161. -/
  | bbs7 (d : Byte) (r : Byte)
  /-- 02 CLE IMPLIED; R318. -/
  | cle
  /-- 03 SEE IMPLIED; R319. -/
  | see
  /-- 08 PHP IMPLIED; R260. -/
  | php
  /-- 0A ASL ACCUM; R215. -/
  | aslA
  /-- 0B TSY IMPLIED; R280. -/
  | tsy
  /-- 18 CLC IMPLIED; R311. -/
  | clc
  /-- 1A INC ACCUM; R204. -/
  | incA
  /-- 1B INZ IMPLIED; R208. -/
  | inz
  /-- 28 PLP IMPLIED; R266. -/
  | plp
  /-- 2A ROL ACCUM; R218. -/
  | rolA
  /-- 2B TYS IMPLIED; R281. -/
  | tys
  /-- 38 SEC IMPLIED; R312. -/
  | sec
  /-- 3A DEC ACCUM; R205. -/
  | decA
  /-- 3B DEZ IMPLIED; R211. -/
  | dez
  /-- 40 RTI IMPLIED; R323. -/
  | rti
  /-- 42 NEG ACCUM; R214. -/
  | neg
  /-- 43 ASR ACCUM; R217. -/
  | asrA
  /-- 48 PHA IMPLIED; R259. -/
  | pha
  /-- 4A LSR ACCUM; R216. -/
  | lsrA
  /-- 4B TAZ IMPLIED; R272. -/
  | taz
  /-- 58 CLI IMPLIED; R315. -/
  | cli
  /-- 5A PHY IMPLIED; R262. -/
  | phy
  /-- 5B TAB IMPLIED; R276. -/
  | tab
  /-- 60 RTS IMPLIED; R165. -/
  | rts
  /-- 68 PLA IMPLIED; R265. -/
  | pla
  /-- 6A ROR ACCUM; R219. -/
  | rorA
  /-- 6B TZA IMPLIED; R275. -/
  | tza
  /-- 78 SEI IMPLIED; R316. -/
  | sei
  /-- 7A PLY IMPLIED; R268. -/
  | ply
  /-- 7B TBA IMPLIED; R277. -/
  | tba
  /-- 88 DEY IMPLIED; R210. -/
  | dey
  /-- 8A TXA IMPLIED; R273. -/
  | txa
  /-- 98 TYA IMPLIED; R274. -/
  | tya
  /-- 9A TXS IMPLIED; R279. -/
  | txs
  /-- A8 TAY IMPLIED; R271. -/
  | tay
  /-- AA TAX IMPLIED; R270. -/
  | tax
  /-- B8 CLV IMPLIED; R317. -/
  | clv
  /-- BA TSX IMPLIED; R278. -/
  | tsx
  /-- C8 INY IMPLIED; R207. -/
  | iny
  /-- CA DEX IMPLIED; R209. -/
  | dex
  /-- D8 CLD IMPLIED; R313. -/
  | cld
  /-- DA PHX IMPLIED; R261. -/
  | phx
  /-- DB PHZ IMPLIED; R263. -/
  | phz
  /-- E8 INX IMPLIED; R206. -/
  | inx
  /-- EA NOP IMPLIED; R320. -/
  | nop
  /-- F8 SED IMPLIED; R314. -/
  | sed
  /-- FA PLX IMPLIED; R267. -/
  | plx
  /-- FB PLZ IMPLIED; R269. -/
  | plz
deriving DecidableEq, Repr

end Sys2Proof
end

