-- ==== Sys2Proof/Decode.lean ====
section
/-! DEFINITION. Decoding and encoding (spec/30_encoding.md R90 to R99), the byte-order helpers they
use, and the tables of the opcode matrix: length, cycles, mnemonic, mode. -/

namespace Sys2Proof

/-! ## Byte order, R64 -/

/-- `H:L` of spec/00_scope.md section 5. -/
def wordOf (hi lo : Byte) : Word := hi ++ lo

/-- `lo(w)`. -/
def loByte (w : Word) : Byte := w.extractLsb' 0 8

/-- `hi(w)`. -/
def hiByte (w : Word) : Byte := w.extractLsb' 8 8

/-! ## The opcode matrix: lengths and cycles (R95: `bytes.cycles` of each cell) -/

/-- Instruction bytes, one inner list per row of the matrix (high digit), R90, R95. -/
def lengthTable : List (List Nat) := [
  [2, 2, 1, 1, 2, 2, 2, 2, 1, 2, 1, 1, 3, 3, 3, 3],
  [2, 2, 2, 3, 2, 2, 2, 2, 1, 3, 1, 1, 3, 3, 3, 3],
  [3, 2, 3, 3, 2, 2, 2, 2, 1, 2, 1, 1, 3, 3, 3, 3],
  [2, 2, 2, 3, 2, 2, 2, 2, 1, 3, 1, 1, 3, 3, 3, 3],
  [1, 2, 1, 1, 2, 2, 2, 2, 1, 2, 1, 1, 3, 3, 3, 3],
  [2, 2, 2, 3, 2, 2, 2, 2, 1, 3, 1, 1, 4, 3, 3, 3],
  [1, 2, 2, 3, 2, 2, 2, 2, 1, 2, 1, 1, 3, 3, 3, 3],
  [2, 2, 2, 3, 2, 2, 2, 2, 1, 3, 1, 1, 3, 3, 3, 3],
  [2, 2, 2, 3, 2, 2, 2, 2, 1, 2, 1, 3, 3, 3, 3, 3],
  [2, 2, 2, 3, 2, 2, 2, 2, 1, 3, 1, 3, 3, 3, 3, 3],
  [2, 2, 2, 2, 2, 2, 2, 2, 1, 2, 1, 3, 3, 3, 3, 3],
  [2, 2, 2, 3, 2, 2, 2, 2, 1, 3, 1, 3, 3, 3, 3, 3],
  [2, 2, 2, 2, 2, 2, 2, 2, 1, 2, 1, 3, 3, 3, 3, 3],
  [2, 2, 2, 3, 2, 2, 2, 2, 1, 3, 1, 1, 3, 3, 3, 3],
  [2, 2, 2, 2, 2, 2, 2, 2, 1, 2, 1, 3, 3, 3, 3, 3],
  [2, 2, 2, 3, 3, 2, 2, 2, 1, 3, 1, 1, 3, 3, 3, 3]]

/-- Machine cycles, one inner list per row of the matrix, R95, R392; CLI (58) is 2, C5. -/
def cycleTable : List (List Nat) := [
  [7, 5, 2, 2, 4, 3, 4, 4, 3, 2, 1, 1, 5, 4, 5, 4],
  [2, 5, 5, 3, 4, 3, 4, 4, 1, 4, 1, 1, 5, 4, 5, 4],
  [5, 5, 7, 7, 4, 3, 4, 4, 3, 2, 1, 1, 5, 4, 5, 4],
  [2, 5, 5, 3, 4, 3, 4, 4, 1, 4, 1, 1, 5, 4, 5, 4],
  [5, 5, 2, 2, 4, 3, 4, 4, 3, 2, 1, 1, 3, 4, 5, 4],
  [2, 5, 5, 3, 4, 3, 4, 4, 2, 4, 3, 1, 4, 4, 5, 4],
  [4, 5, 7, 5, 3, 3, 4, 4, 3, 2, 1, 1, 5, 4, 5, 4],
  [2, 5, 5, 3, 3, 3, 4, 4, 2, 4, 3, 1, 5, 4, 5, 4],
  [2, 5, 6, 3, 3, 3, 3, 4, 1, 2, 1, 4, 4, 4, 4, 4],
  [2, 5, 5, 3, 3, 3, 3, 4, 1, 4, 1, 4, 4, 4, 4, 4],
  [2, 5, 2, 2, 3, 3, 3, 4, 1, 2, 1, 4, 4, 4, 4, 4],
  [2, 5, 5, 3, 3, 3, 3, 4, 1, 4, 1, 4, 4, 4, 4, 4],
  [2, 5, 2, 6, 3, 3, 4, 4, 1, 2, 1, 7, 4, 4, 5, 4],
  [2, 5, 5, 3, 3, 3, 4, 4, 1, 4, 3, 3, 4, 4, 5, 4],
  [2, 5, 6, 6, 3, 3, 4, 4, 1, 2, 1, 6, 4, 4, 5, 4],
  [2, 5, 5, 3, 5, 3, 4, 4, 1, 4, 3, 3, 7, 4, 5, 4]]

/-- A cell of a table of the matrix. -/
def matrixCell (t : List (List Nat)) (op : Byte) : Nat :=
  (t.getD (op.toNat / 16) []).getD (op.toNat % 16) 0

/-- `len` of R92. -/
def opcodeLength (op : Byte) : Nat := matrixCell lengthTable op

/-- The cycle count of an opcode. Data only, but for `Instr.singleCycle` (D22). -/
def opcodeCycles (op : Byte) : Nat := matrixCell cycleTable op

/-! ## Decoding, R95 -/

/-- Row 0 of the opcode matrix by the low digit of the opcode (below 16). -/
def decodeRow0 (lo : Nat) (b1 b2 _b3 : Byte) : Instr :=
  match lo with
  | 0 => .brk b1
  | 1 => .oraBpXInd b1
  | 2 => .cle
  | 3 => .see
  | 4 => .tsbBp b1
  | 5 => .oraBp b1
  | 6 => .aslBp b1
  | 7 => .rmb0 b1
  | 8 => .php
  | 9 => .oraImm b1
  | 10 => .aslA
  | 11 => .tsy
  | 12 => .tsbAbs (wordOf b2 b1)
  | 13 => .oraAbs (wordOf b2 b1)
  | 14 => .aslAbs (wordOf b2 b1)
  | _ => .bbr0 b1 b2

/-- Row 1 of the opcode matrix by the low digit of the opcode (below 16). -/
def decodeRow1 (lo : Nat) (b1 b2 _b3 : Byte) : Instr :=
  match lo with
  | 0 => .bplRel b1
  | 1 => .oraBpIndY b1
  | 2 => .oraBpIndZ b1
  | 3 => .bplWrel (wordOf b2 b1)
  | 4 => .trbBp b1
  | 5 => .oraBpX b1
  | 6 => .aslBpX b1
  | 7 => .rmb1 b1
  | 8 => .clc
  | 9 => .oraAbsY (wordOf b2 b1)
  | 10 => .incA
  | 11 => .inz
  | 12 => .trbAbs (wordOf b2 b1)
  | 13 => .oraAbsX (wordOf b2 b1)
  | 14 => .aslAbsX (wordOf b2 b1)
  | _ => .bbr1 b1 b2

/-- Row 2 of the opcode matrix by the low digit of the opcode (below 16). -/
def decodeRow2 (lo : Nat) (b1 b2 _b3 : Byte) : Instr :=
  match lo with
  | 0 => .jsrAbs (wordOf b2 b1)
  | 1 => .andBpXInd b1
  | 2 => .jsrAbsInd (wordOf b2 b1)
  | 3 => .jsrAbsXInd (wordOf b2 b1)
  | 4 => .bitBp b1
  | 5 => .andBp b1
  | 6 => .rolBp b1
  | 7 => .rmb2 b1
  | 8 => .plp
  | 9 => .andImm b1
  | 10 => .rolA
  | 11 => .tys
  | 12 => .bitAbs (wordOf b2 b1)
  | 13 => .andAbs (wordOf b2 b1)
  | 14 => .rolAbs (wordOf b2 b1)
  | _ => .bbr2 b1 b2

/-- Row 3 of the opcode matrix by the low digit of the opcode (below 16). -/
def decodeRow3 (lo : Nat) (b1 b2 _b3 : Byte) : Instr :=
  match lo with
  | 0 => .bmiRel b1
  | 1 => .andBpIndY b1
  | 2 => .andBpIndZ b1
  | 3 => .bmiWrel (wordOf b2 b1)
  | 4 => .bitBpX b1
  | 5 => .andBpX b1
  | 6 => .rolBpX b1
  | 7 => .rmb3 b1
  | 8 => .sec
  | 9 => .andAbsY (wordOf b2 b1)
  | 10 => .decA
  | 11 => .dez
  | 12 => .bitAbsX (wordOf b2 b1)
  | 13 => .andAbsX (wordOf b2 b1)
  | 14 => .rolAbsX (wordOf b2 b1)
  | _ => .bbr3 b1 b2

/-- Row 4 of the opcode matrix by the low digit of the opcode (below 16). -/
def decodeRow4 (lo : Nat) (b1 b2 _b3 : Byte) : Instr :=
  match lo with
  | 0 => .rti
  | 1 => .eorBpXInd b1
  | 2 => .neg
  | 3 => .asrA
  | 4 => .asrBp b1
  | 5 => .eorBp b1
  | 6 => .lsrBp b1
  | 7 => .rmb4 b1
  | 8 => .pha
  | 9 => .eorImm b1
  | 10 => .lsrA
  | 11 => .taz
  | 12 => .jmpAbs (wordOf b2 b1)
  | 13 => .eorAbs (wordOf b2 b1)
  | 14 => .lsrAbs (wordOf b2 b1)
  | _ => .bbr4 b1 b2

/-- Row 5 of the opcode matrix by the low digit of the opcode (below 16). -/
def decodeRow5 (lo : Nat) (b1 b2 b3 : Byte) : Instr :=
  match lo with
  | 0 => .bvcRel b1
  | 1 => .eorBpIndY b1
  | 2 => .eorBpIndZ b1
  | 3 => .bvcWrel (wordOf b2 b1)
  | 4 => .asrBpX b1
  | 5 => .eorBpX b1
  | 6 => .lsrBpX b1
  | 7 => .rmb5 b1
  | 8 => .cli
  | 9 => .eorAbsY (wordOf b2 b1)
  | 10 => .phy
  | 11 => .tab
  | 12 => .aug b1 b2 b3
  | 13 => .eorAbsX (wordOf b2 b1)
  | 14 => .lsrAbsX (wordOf b2 b1)
  | _ => .bbr5 b1 b2

/-- Row 6 of the opcode matrix by the low digit of the opcode (below 16). -/
def decodeRow6 (lo : Nat) (b1 b2 _b3 : Byte) : Instr :=
  match lo with
  | 0 => .rts
  | 1 => .adcBpXInd b1
  | 2 => .rtn b1
  | 3 => .bsr (wordOf b2 b1)
  | 4 => .stzBp b1
  | 5 => .adcBp b1
  | 6 => .rorBp b1
  | 7 => .rmb6 b1
  | 8 => .pla
  | 9 => .adcImm b1
  | 10 => .rorA
  | 11 => .tza
  | 12 => .jmpAbsInd (wordOf b2 b1)
  | 13 => .adcAbs (wordOf b2 b1)
  | 14 => .rorAbs (wordOf b2 b1)
  | _ => .bbr6 b1 b2

/-- Row 7 of the opcode matrix by the low digit of the opcode (below 16). -/
def decodeRow7 (lo : Nat) (b1 b2 _b3 : Byte) : Instr :=
  match lo with
  | 0 => .bvsRel b1
  | 1 => .adcBpIndY b1
  | 2 => .adcBpIndZ b1
  | 3 => .bvsWrel (wordOf b2 b1)
  | 4 => .stzBpX b1
  | 5 => .adcBpX b1
  | 6 => .rorBpX b1
  | 7 => .rmb7 b1
  | 8 => .sei
  | 9 => .adcAbsY (wordOf b2 b1)
  | 10 => .ply
  | 11 => .tba
  | 12 => .jmpAbsXInd (wordOf b2 b1)
  | 13 => .adcAbsX (wordOf b2 b1)
  | 14 => .rorAbsX (wordOf b2 b1)
  | _ => .bbr7 b1 b2

/-- Row 8 of the opcode matrix by the low digit of the opcode (below 16). -/
def decodeRow8 (lo : Nat) (b1 b2 _b3 : Byte) : Instr :=
  match lo with
  | 0 => .bruRel b1
  | 1 => .staBpXInd b1
  | 2 => .staSpIndY b1
  | 3 => .bruWrel (wordOf b2 b1)
  | 4 => .styBp b1
  | 5 => .staBp b1
  | 6 => .stxBp b1
  | 7 => .smb0 b1
  | 8 => .dey
  | 9 => .bitImm b1
  | 10 => .txa
  | 11 => .styAbsX (wordOf b2 b1)
  | 12 => .styAbs (wordOf b2 b1)
  | 13 => .staAbs (wordOf b2 b1)
  | 14 => .stxAbs (wordOf b2 b1)
  | _ => .bbs0 b1 b2

/-- Row 9 of the opcode matrix by the low digit of the opcode (below 16). -/
def decodeRow9 (lo : Nat) (b1 b2 _b3 : Byte) : Instr :=
  match lo with
  | 0 => .bccRel b1
  | 1 => .staBpIndY b1
  | 2 => .staBpIndZ b1
  | 3 => .bccWrel (wordOf b2 b1)
  | 4 => .styBpX b1
  | 5 => .staBpX b1
  | 6 => .stxBpY b1
  | 7 => .smb1 b1
  | 8 => .tya
  | 9 => .staAbsY (wordOf b2 b1)
  | 10 => .txs
  | 11 => .stxAbsY (wordOf b2 b1)
  | 12 => .stzAbs (wordOf b2 b1)
  | 13 => .staAbsX (wordOf b2 b1)
  | 14 => .stzAbsX (wordOf b2 b1)
  | _ => .bbs1 b1 b2

/-- Row A of the opcode matrix by the low digit of the opcode (below 16). -/
def decodeRowA (lo : Nat) (b1 b2 _b3 : Byte) : Instr :=
  match lo with
  | 0 => .ldyImm b1
  | 1 => .ldaBpXInd b1
  | 2 => .ldxImm b1
  | 3 => .ldzImm b1
  | 4 => .ldyBp b1
  | 5 => .ldaBp b1
  | 6 => .ldxBp b1
  | 7 => .smb2 b1
  | 8 => .tay
  | 9 => .ldaImm b1
  | 10 => .tax
  | 11 => .ldzAbs (wordOf b2 b1)
  | 12 => .ldyAbs (wordOf b2 b1)
  | 13 => .ldaAbs (wordOf b2 b1)
  | 14 => .ldxAbs (wordOf b2 b1)
  | _ => .bbs2 b1 b2

/-- Row B of the opcode matrix by the low digit of the opcode (below 16). -/
def decodeRowB (lo : Nat) (b1 b2 _b3 : Byte) : Instr :=
  match lo with
  | 0 => .bcsRel b1
  | 1 => .ldaBpIndY b1
  | 2 => .ldaBpIndZ b1
  | 3 => .bcsWrel (wordOf b2 b1)
  | 4 => .ldyBpX b1
  | 5 => .ldaBpX b1
  | 6 => .ldxBpY b1
  | 7 => .smb3 b1
  | 8 => .clv
  | 9 => .ldaAbsY (wordOf b2 b1)
  | 10 => .tsx
  | 11 => .ldzAbsX (wordOf b2 b1)
  | 12 => .ldyAbsX (wordOf b2 b1)
  | 13 => .ldaAbsX (wordOf b2 b1)
  | 14 => .ldxAbsY (wordOf b2 b1)
  | _ => .bbs3 b1 b2

/-- Row C of the opcode matrix by the low digit of the opcode (below 16). -/
def decodeRowC (lo : Nat) (b1 b2 _b3 : Byte) : Instr :=
  match lo with
  | 0 => .cpyImm b1
  | 1 => .cmpBpXInd b1
  | 2 => .cpzImm b1
  | 3 => .dew b1
  | 4 => .cpyBp b1
  | 5 => .cmpBp b1
  | 6 => .decBp b1
  | 7 => .smb4 b1
  | 8 => .iny
  | 9 => .cmpImm b1
  | 10 => .dex
  | 11 => .asw (wordOf b2 b1)
  | 12 => .cpyAbs (wordOf b2 b1)
  | 13 => .cmpAbs (wordOf b2 b1)
  | 14 => .decAbs (wordOf b2 b1)
  | _ => .bbs4 b1 b2

/-- Row D of the opcode matrix by the low digit of the opcode (below 16). -/
def decodeRowD (lo : Nat) (b1 b2 _b3 : Byte) : Instr :=
  match lo with
  | 0 => .bneRel b1
  | 1 => .cmpBpIndY b1
  | 2 => .cmpBpIndZ b1
  | 3 => .bneWrel (wordOf b2 b1)
  | 4 => .cpzBp b1
  | 5 => .cmpBpX b1
  | 6 => .decBpX b1
  | 7 => .smb5 b1
  | 8 => .cld
  | 9 => .cmpAbsY (wordOf b2 b1)
  | 10 => .phx
  | 11 => .phz
  | 12 => .cpzAbs (wordOf b2 b1)
  | 13 => .cmpAbsX (wordOf b2 b1)
  | 14 => .decAbsX (wordOf b2 b1)
  | _ => .bbs5 b1 b2

/-- Row E of the opcode matrix by the low digit of the opcode (below 16). -/
def decodeRowE (lo : Nat) (b1 b2 _b3 : Byte) : Instr :=
  match lo with
  | 0 => .cpxImm b1
  | 1 => .sbcBpXInd b1
  | 2 => .ldaSpIndY b1
  | 3 => .inw b1
  | 4 => .cpxBp b1
  | 5 => .sbcBp b1
  | 6 => .incBp b1
  | 7 => .smb6 b1
  | 8 => .inx
  | 9 => .sbcImm b1
  | 10 => .nop
  | 11 => .row (wordOf b2 b1)
  | 12 => .cpxAbs (wordOf b2 b1)
  | 13 => .sbcAbs (wordOf b2 b1)
  | 14 => .incAbs (wordOf b2 b1)
  | _ => .bbs6 b1 b2

/-- Row F of the opcode matrix by the low digit of the opcode (below 16). -/
def decodeRowF (lo : Nat) (b1 b2 _b3 : Byte) : Instr :=
  match lo with
  | 0 => .beqRel b1
  | 1 => .sbcBpIndY b1
  | 2 => .sbcBpIndZ b1
  | 3 => .beqWrel (wordOf b2 b1)
  | 4 => .phwImmW (wordOf b2 b1)
  | 5 => .sbcBpX b1
  | 6 => .incBpX b1
  | 7 => .smb7 b1
  | 8 => .sed
  | 9 => .sbcAbsY (wordOf b2 b1)
  | 10 => .plx
  | 11 => .plz
  | 12 => .phwAbs (wordOf b2 b1)
  | 13 => .sbcAbsX (wordOf b2 b1)
  | 14 => .incAbsX (wordOf b2 b1)
  | _ => .bbs7 b1 b2

/-- The instruction of an opcode byte and the three bytes after it; those past the opcode's length are
not looked at. Total: R98. -/
def decodeOpcode (op b1 b2 b3 : Byte) : Instr :=
  match op.toNat / 16 with
  | 0 => decodeRow0 (op.toNat % 16) b1 b2 b3
  | 1 => decodeRow1 (op.toNat % 16) b1 b2 b3
  | 2 => decodeRow2 (op.toNat % 16) b1 b2 b3
  | 3 => decodeRow3 (op.toNat % 16) b1 b2 b3
  | 4 => decodeRow4 (op.toNat % 16) b1 b2 b3
  | 5 => decodeRow5 (op.toNat % 16) b1 b2 b3
  | 6 => decodeRow6 (op.toNat % 16) b1 b2 b3
  | 7 => decodeRow7 (op.toNat % 16) b1 b2 b3
  | 8 => decodeRow8 (op.toNat % 16) b1 b2 b3
  | 9 => decodeRow9 (op.toNat % 16) b1 b2 b3
  | 10 => decodeRowA (op.toNat % 16) b1 b2 b3
  | 11 => decodeRowB (op.toNat % 16) b1 b2 b3
  | 12 => decodeRowC (op.toNat % 16) b1 b2 b3
  | 13 => decodeRowD (op.toNat % 16) b1 b2 b3
  | 14 => decodeRowE (op.toNat % 16) b1 b2 b3
  | _ => decodeRowF (op.toNat % 16) b1 b2 b3

/-- Why a list of bytes is not an instruction. No opcode is undefined (R98), so only bytes can lack. -/
inductive DecodeError where
  /-- There is no opcode byte. -/
  | empty
  /-- The opcode needs more operand bytes than there are. -/
  | truncated (opcode : Byte)
deriving DecidableEq, Repr

/-- The instruction at the head of a list of bytes, and the bytes after it (R90). -/
def decode (bytes : List Byte) : Except DecodeError (Instr × List Byte) :=
  match bytes with
  | [] => .error .empty
  | op :: rest =>
    if rest.length + 1 < opcodeLength op then .error (.truncated op)
    else .ok (decodeOpcode op (rest.getD 0 0) (rest.getD 1 0) (rest.getD 2 0),
      rest.drop (opcodeLength op - 1))

/-- The instruction in the table's numbering of bits: byte k of the instruction is bits 8k+7..8k of
`w`; all bits from `nbits` up are zero. -/
def decodeTableWord (nbits w : Nat) : Option Instr :=
  let v := w % 2 ^ nbits
  match decode [BitVec.ofNat 8 v, BitVec.ofNat 8 (v / 256), BitVec.ofNat 8 (v / 65536),
      BitVec.ofNat 8 (v / 16777216)] with
  | .ok (i, _) => some i
  | .error _ => none

/-! ## Encoding, R91, R96 -/

/-- The bytes of an instruction, the opcode first, a 16-bit operand low byte first (R64, R91). -/
def encode (i : Instr) : List Byte :=
  match i with
  | .brk sig => [0x00#8, sig]
  | .oraBpXInd d => [0x01#8, d]
  | .cle => [0x02#8]
  | .see => [0x03#8]
  | .tsbBp d => [0x04#8, d]
  | .oraBp d => [0x05#8, d]
  | .aslBp d => [0x06#8, d]
  | .rmb0 d => [0x07#8, d]
  | .php => [0x08#8]
  | .oraImm m => [0x09#8, m]
  | .aslA => [0x0A#8]
  | .tsy => [0x0B#8]
  | .tsbAbs w => [0x0C#8, loByte w, hiByte w]
  | .oraAbs w => [0x0D#8, loByte w, hiByte w]
  | .aslAbs w => [0x0E#8, loByte w, hiByte w]
  | .bbr0 d r => [0x0F#8, d, r]
  | .bplRel r => [0x10#8, r]
  | .oraBpIndY d => [0x11#8, d]
  | .oraBpIndZ d => [0x12#8, d]
  | .bplWrel w => [0x13#8, loByte w, hiByte w]
  | .trbBp d => [0x14#8, d]
  | .oraBpX d => [0x15#8, d]
  | .aslBpX d => [0x16#8, d]
  | .rmb1 d => [0x17#8, d]
  | .clc => [0x18#8]
  | .oraAbsY w => [0x19#8, loByte w, hiByte w]
  | .incA => [0x1A#8]
  | .inz => [0x1B#8]
  | .trbAbs w => [0x1C#8, loByte w, hiByte w]
  | .oraAbsX w => [0x1D#8, loByte w, hiByte w]
  | .aslAbsX w => [0x1E#8, loByte w, hiByte w]
  | .bbr1 d r => [0x1F#8, d, r]
  | .jsrAbs w => [0x20#8, loByte w, hiByte w]
  | .andBpXInd d => [0x21#8, d]
  | .jsrAbsInd w => [0x22#8, loByte w, hiByte w]
  | .jsrAbsXInd w => [0x23#8, loByte w, hiByte w]
  | .bitBp d => [0x24#8, d]
  | .andBp d => [0x25#8, d]
  | .rolBp d => [0x26#8, d]
  | .rmb2 d => [0x27#8, d]
  | .plp => [0x28#8]
  | .andImm m => [0x29#8, m]
  | .rolA => [0x2A#8]
  | .tys => [0x2B#8]
  | .bitAbs w => [0x2C#8, loByte w, hiByte w]
  | .andAbs w => [0x2D#8, loByte w, hiByte w]
  | .rolAbs w => [0x2E#8, loByte w, hiByte w]
  | .bbr2 d r => [0x2F#8, d, r]
  | .bmiRel r => [0x30#8, r]
  | .andBpIndY d => [0x31#8, d]
  | .andBpIndZ d => [0x32#8, d]
  | .bmiWrel w => [0x33#8, loByte w, hiByte w]
  | .bitBpX d => [0x34#8, d]
  | .andBpX d => [0x35#8, d]
  | .rolBpX d => [0x36#8, d]
  | .rmb3 d => [0x37#8, d]
  | .sec => [0x38#8]
  | .andAbsY w => [0x39#8, loByte w, hiByte w]
  | .decA => [0x3A#8]
  | .dez => [0x3B#8]
  | .bitAbsX w => [0x3C#8, loByte w, hiByte w]
  | .andAbsX w => [0x3D#8, loByte w, hiByte w]
  | .rolAbsX w => [0x3E#8, loByte w, hiByte w]
  | .bbr3 d r => [0x3F#8, d, r]
  | .rti => [0x40#8]
  | .eorBpXInd d => [0x41#8, d]
  | .neg => [0x42#8]
  | .asrA => [0x43#8]
  | .asrBp d => [0x44#8, d]
  | .eorBp d => [0x45#8, d]
  | .lsrBp d => [0x46#8, d]
  | .rmb4 d => [0x47#8, d]
  | .pha => [0x48#8]
  | .eorImm m => [0x49#8, m]
  | .lsrA => [0x4A#8]
  | .taz => [0x4B#8]
  | .jmpAbs w => [0x4C#8, loByte w, hiByte w]
  | .eorAbs w => [0x4D#8, loByte w, hiByte w]
  | .lsrAbs w => [0x4E#8, loByte w, hiByte w]
  | .bbr4 d r => [0x4F#8, d, r]
  | .bvcRel r => [0x50#8, r]
  | .eorBpIndY d => [0x51#8, d]
  | .eorBpIndZ d => [0x52#8, d]
  | .bvcWrel w => [0x53#8, loByte w, hiByte w]
  | .asrBpX d => [0x54#8, d]
  | .eorBpX d => [0x55#8, d]
  | .lsrBpX d => [0x56#8, d]
  | .rmb5 d => [0x57#8, d]
  | .cli => [0x58#8]
  | .eorAbsY w => [0x59#8, loByte w, hiByte w]
  | .phy => [0x5A#8]
  | .tab => [0x5B#8]
  | .aug b1 b2 b3 => [0x5C#8, b1, b2, b3]
  | .eorAbsX w => [0x5D#8, loByte w, hiByte w]
  | .lsrAbsX w => [0x5E#8, loByte w, hiByte w]
  | .bbr5 d r => [0x5F#8, d, r]
  | .rts => [0x60#8]
  | .adcBpXInd d => [0x61#8, d]
  | .rtn n => [0x62#8, n]
  | .bsr w => [0x63#8, loByte w, hiByte w]
  | .stzBp d => [0x64#8, d]
  | .adcBp d => [0x65#8, d]
  | .rorBp d => [0x66#8, d]
  | .rmb6 d => [0x67#8, d]
  | .pla => [0x68#8]
  | .adcImm m => [0x69#8, m]
  | .rorA => [0x6A#8]
  | .tza => [0x6B#8]
  | .jmpAbsInd w => [0x6C#8, loByte w, hiByte w]
  | .adcAbs w => [0x6D#8, loByte w, hiByte w]
  | .rorAbs w => [0x6E#8, loByte w, hiByte w]
  | .bbr6 d r => [0x6F#8, d, r]
  | .bvsRel r => [0x70#8, r]
  | .adcBpIndY d => [0x71#8, d]
  | .adcBpIndZ d => [0x72#8, d]
  | .bvsWrel w => [0x73#8, loByte w, hiByte w]
  | .stzBpX d => [0x74#8, d]
  | .adcBpX d => [0x75#8, d]
  | .rorBpX d => [0x76#8, d]
  | .rmb7 d => [0x77#8, d]
  | .sei => [0x78#8]
  | .adcAbsY w => [0x79#8, loByte w, hiByte w]
  | .ply => [0x7A#8]
  | .tba => [0x7B#8]
  | .jmpAbsXInd w => [0x7C#8, loByte w, hiByte w]
  | .adcAbsX w => [0x7D#8, loByte w, hiByte w]
  | .rorAbsX w => [0x7E#8, loByte w, hiByte w]
  | .bbr7 d r => [0x7F#8, d, r]
  | .bruRel r => [0x80#8, r]
  | .staBpXInd d => [0x81#8, d]
  | .staSpIndY d => [0x82#8, d]
  | .bruWrel w => [0x83#8, loByte w, hiByte w]
  | .styBp d => [0x84#8, d]
  | .staBp d => [0x85#8, d]
  | .stxBp d => [0x86#8, d]
  | .smb0 d => [0x87#8, d]
  | .dey => [0x88#8]
  | .bitImm m => [0x89#8, m]
  | .txa => [0x8A#8]
  | .styAbsX w => [0x8B#8, loByte w, hiByte w]
  | .styAbs w => [0x8C#8, loByte w, hiByte w]
  | .staAbs w => [0x8D#8, loByte w, hiByte w]
  | .stxAbs w => [0x8E#8, loByte w, hiByte w]
  | .bbs0 d r => [0x8F#8, d, r]
  | .bccRel r => [0x90#8, r]
  | .staBpIndY d => [0x91#8, d]
  | .staBpIndZ d => [0x92#8, d]
  | .bccWrel w => [0x93#8, loByte w, hiByte w]
  | .styBpX d => [0x94#8, d]
  | .staBpX d => [0x95#8, d]
  | .stxBpY d => [0x96#8, d]
  | .smb1 d => [0x97#8, d]
  | .tya => [0x98#8]
  | .staAbsY w => [0x99#8, loByte w, hiByte w]
  | .txs => [0x9A#8]
  | .stxAbsY w => [0x9B#8, loByte w, hiByte w]
  | .stzAbs w => [0x9C#8, loByte w, hiByte w]
  | .staAbsX w => [0x9D#8, loByte w, hiByte w]
  | .stzAbsX w => [0x9E#8, loByte w, hiByte w]
  | .bbs1 d r => [0x9F#8, d, r]
  | .ldyImm m => [0xA0#8, m]
  | .ldaBpXInd d => [0xA1#8, d]
  | .ldxImm m => [0xA2#8, m]
  | .ldzImm m => [0xA3#8, m]
  | .ldyBp d => [0xA4#8, d]
  | .ldaBp d => [0xA5#8, d]
  | .ldxBp d => [0xA6#8, d]
  | .smb2 d => [0xA7#8, d]
  | .tay => [0xA8#8]
  | .ldaImm m => [0xA9#8, m]
  | .tax => [0xAA#8]
  | .ldzAbs w => [0xAB#8, loByte w, hiByte w]
  | .ldyAbs w => [0xAC#8, loByte w, hiByte w]
  | .ldaAbs w => [0xAD#8, loByte w, hiByte w]
  | .ldxAbs w => [0xAE#8, loByte w, hiByte w]
  | .bbs2 d r => [0xAF#8, d, r]
  | .bcsRel r => [0xB0#8, r]
  | .ldaBpIndY d => [0xB1#8, d]
  | .ldaBpIndZ d => [0xB2#8, d]
  | .bcsWrel w => [0xB3#8, loByte w, hiByte w]
  | .ldyBpX d => [0xB4#8, d]
  | .ldaBpX d => [0xB5#8, d]
  | .ldxBpY d => [0xB6#8, d]
  | .smb3 d => [0xB7#8, d]
  | .clv => [0xB8#8]
  | .ldaAbsY w => [0xB9#8, loByte w, hiByte w]
  | .tsx => [0xBA#8]
  | .ldzAbsX w => [0xBB#8, loByte w, hiByte w]
  | .ldyAbsX w => [0xBC#8, loByte w, hiByte w]
  | .ldaAbsX w => [0xBD#8, loByte w, hiByte w]
  | .ldxAbsY w => [0xBE#8, loByte w, hiByte w]
  | .bbs3 d r => [0xBF#8, d, r]
  | .cpyImm m => [0xC0#8, m]
  | .cmpBpXInd d => [0xC1#8, d]
  | .cpzImm m => [0xC2#8, m]
  | .dew d => [0xC3#8, d]
  | .cpyBp d => [0xC4#8, d]
  | .cmpBp d => [0xC5#8, d]
  | .decBp d => [0xC6#8, d]
  | .smb4 d => [0xC7#8, d]
  | .iny => [0xC8#8]
  | .cmpImm m => [0xC9#8, m]
  | .dex => [0xCA#8]
  | .asw w => [0xCB#8, loByte w, hiByte w]
  | .cpyAbs w => [0xCC#8, loByte w, hiByte w]
  | .cmpAbs w => [0xCD#8, loByte w, hiByte w]
  | .decAbs w => [0xCE#8, loByte w, hiByte w]
  | .bbs4 d r => [0xCF#8, d, r]
  | .bneRel r => [0xD0#8, r]
  | .cmpBpIndY d => [0xD1#8, d]
  | .cmpBpIndZ d => [0xD2#8, d]
  | .bneWrel w => [0xD3#8, loByte w, hiByte w]
  | .cpzBp d => [0xD4#8, d]
  | .cmpBpX d => [0xD5#8, d]
  | .decBpX d => [0xD6#8, d]
  | .smb5 d => [0xD7#8, d]
  | .cld => [0xD8#8]
  | .cmpAbsY w => [0xD9#8, loByte w, hiByte w]
  | .phx => [0xDA#8]
  | .phz => [0xDB#8]
  | .cpzAbs w => [0xDC#8, loByte w, hiByte w]
  | .cmpAbsX w => [0xDD#8, loByte w, hiByte w]
  | .decAbsX w => [0xDE#8, loByte w, hiByte w]
  | .bbs5 d r => [0xDF#8, d, r]
  | .cpxImm m => [0xE0#8, m]
  | .sbcBpXInd d => [0xE1#8, d]
  | .ldaSpIndY d => [0xE2#8, d]
  | .inw d => [0xE3#8, d]
  | .cpxBp d => [0xE4#8, d]
  | .sbcBp d => [0xE5#8, d]
  | .incBp d => [0xE6#8, d]
  | .smb6 d => [0xE7#8, d]
  | .inx => [0xE8#8]
  | .sbcImm m => [0xE9#8, m]
  | .nop => [0xEA#8]
  | .row w => [0xEB#8, loByte w, hiByte w]
  | .cpxAbs w => [0xEC#8, loByte w, hiByte w]
  | .sbcAbs w => [0xED#8, loByte w, hiByte w]
  | .incAbs w => [0xEE#8, loByte w, hiByte w]
  | .bbs6 d r => [0xEF#8, d, r]
  | .beqRel r => [0xF0#8, r]
  | .sbcBpIndY d => [0xF1#8, d]
  | .sbcBpIndZ d => [0xF2#8, d]
  | .beqWrel w => [0xF3#8, loByte w, hiByte w]
  | .phwImmW w => [0xF4#8, loByte w, hiByte w]
  | .sbcBpX d => [0xF5#8, d]
  | .incBpX d => [0xF6#8, d]
  | .smb7 d => [0xF7#8, d]
  | .sed => [0xF8#8]
  | .sbcAbsY w => [0xF9#8, loByte w, hiByte w]
  | .plx => [0xFA#8]
  | .plz => [0xFB#8]
  | .phwAbs w => [0xFC#8, loByte w, hiByte w]
  | .sbcAbsX w => [0xFD#8, loByte w, hiByte w]
  | .incAbsX w => [0xFE#8, loByte w, hiByte w]
  | .bbs7 d r => [0xFF#8, d, r]

/-- The opcode byte of an instruction. -/
def Instr.opcode (i : Instr) : Byte := (encode i).headD 0

/-- The length of an instruction in bytes. -/
def Instr.length (i : Instr) : Nat := opcodeLength i.opcode

/-- Machine cycles of an instruction, the same in every case (R393). -/
def Instr.cycles (i : Instr) : Nat := opcodeCycles i.opcode

/-- `SingleCycle(op)` of R344: the opcode takes one machine cycle. -/
def Instr.singleCycle (i : Instr) : Bool := i.cycles == 1

/-- The shortest execution time in nanoseconds at a speed grade, R394. -/
def Instr.minTimeNs (g : ClockGrade) (i : Instr) : Nat := i.cycles * g.minCycleNs

/-! ## Names and modes, R96, R99, R101 to R103 -/

/-- The mnemonic of an instruction as spec/opcode_table.json spells it. -/
def Instr.mnemonic (i : Instr) : String :=
  match i with
  | .brk _ => "BRK"
  | .oraBpXInd _ => "ORA"
  | .cle => "CLE"
  | .see => "SEE"
  | .tsbBp _ => "TSB"
  | .oraBp _ => "ORA"
  | .aslBp _ => "ASL"
  | .rmb0 _ => "RMB0"
  | .php => "PHP"
  | .oraImm _ => "ORA"
  | .aslA => "ASL"
  | .tsy => "TSY"
  | .tsbAbs _ => "TSB"
  | .oraAbs _ => "ORA"
  | .aslAbs _ => "ASL"
  | .bbr0 _ _ => "BBR0"
  | .bplRel _ => "BPL"
  | .oraBpIndY _ => "ORA"
  | .oraBpIndZ _ => "ORA"
  | .bplWrel _ => "BPL"
  | .trbBp _ => "TRB"
  | .oraBpX _ => "ORA"
  | .aslBpX _ => "ASL"
  | .rmb1 _ => "RMB1"
  | .clc => "CLC"
  | .oraAbsY _ => "ORA"
  | .incA => "INC"
  | .inz => "INZ"
  | .trbAbs _ => "TRB"
  | .oraAbsX _ => "ORA"
  | .aslAbsX _ => "ASL"
  | .bbr1 _ _ => "BBR1"
  | .jsrAbs _ => "JSR"
  | .andBpXInd _ => "AND"
  | .jsrAbsInd _ => "JSR"
  | .jsrAbsXInd _ => "JSR"
  | .bitBp _ => "BIT"
  | .andBp _ => "AND"
  | .rolBp _ => "ROL"
  | .rmb2 _ => "RMB2"
  | .plp => "PLP"
  | .andImm _ => "AND"
  | .rolA => "ROL"
  | .tys => "TYS"
  | .bitAbs _ => "BIT"
  | .andAbs _ => "AND"
  | .rolAbs _ => "ROL"
  | .bbr2 _ _ => "BBR2"
  | .bmiRel _ => "BMI"
  | .andBpIndY _ => "AND"
  | .andBpIndZ _ => "AND"
  | .bmiWrel _ => "BMI"
  | .bitBpX _ => "BIT"
  | .andBpX _ => "AND"
  | .rolBpX _ => "ROL"
  | .rmb3 _ => "RMB3"
  | .sec => "SEC"
  | .andAbsY _ => "AND"
  | .decA => "DEC"
  | .dez => "DEZ"
  | .bitAbsX _ => "BIT"
  | .andAbsX _ => "AND"
  | .rolAbsX _ => "ROL"
  | .bbr3 _ _ => "BBR3"
  | .rti => "RTI"
  | .eorBpXInd _ => "EOR"
  | .neg => "NEG"
  | .asrA => "ASR"
  | .asrBp _ => "ASR"
  | .eorBp _ => "EOR"
  | .lsrBp _ => "LSR"
  | .rmb4 _ => "RMB4"
  | .pha => "PHA"
  | .eorImm _ => "EOR"
  | .lsrA => "LSR"
  | .taz => "TAZ"
  | .jmpAbs _ => "JMP"
  | .eorAbs _ => "EOR"
  | .lsrAbs _ => "LSR"
  | .bbr4 _ _ => "BBR4"
  | .bvcRel _ => "BVC"
  | .eorBpIndY _ => "EOR"
  | .eorBpIndZ _ => "EOR"
  | .bvcWrel _ => "BVC"
  | .asrBpX _ => "ASR"
  | .eorBpX _ => "EOR"
  | .lsrBpX _ => "LSR"
  | .rmb5 _ => "RMB5"
  | .cli => "CLI"
  | .eorAbsY _ => "EOR"
  | .phy => "PHY"
  | .tab => "TAB"
  | .aug _ _ _ => "AUG"
  | .eorAbsX _ => "EOR"
  | .lsrAbsX _ => "LSR"
  | .bbr5 _ _ => "BBR5"
  | .rts => "RTS"
  | .adcBpXInd _ => "ADC"
  | .rtn _ => "RTN"
  | .bsr _ => "BSR"
  | .stzBp _ => "STZ"
  | .adcBp _ => "ADC"
  | .rorBp _ => "ROR"
  | .rmb6 _ => "RMB6"
  | .pla => "PLA"
  | .adcImm _ => "ADC"
  | .rorA => "ROR"
  | .tza => "TZA"
  | .jmpAbsInd _ => "JMP"
  | .adcAbs _ => "ADC"
  | .rorAbs _ => "ROR"
  | .bbr6 _ _ => "BBR6"
  | .bvsRel _ => "BVS"
  | .adcBpIndY _ => "ADC"
  | .adcBpIndZ _ => "ADC"
  | .bvsWrel _ => "BVS"
  | .stzBpX _ => "STZ"
  | .adcBpX _ => "ADC"
  | .rorBpX _ => "ROR"
  | .rmb7 _ => "RMB7"
  | .sei => "SEI"
  | .adcAbsY _ => "ADC"
  | .ply => "PLY"
  | .tba => "TBA"
  | .jmpAbsXInd _ => "JMP"
  | .adcAbsX _ => "ADC"
  | .rorAbsX _ => "ROR"
  | .bbr7 _ _ => "BBR7"
  | .bruRel _ => "BRU"
  | .staBpXInd _ => "STA"
  | .staSpIndY _ => "STA"
  | .bruWrel _ => "BRU"
  | .styBp _ => "STY"
  | .staBp _ => "STA"
  | .stxBp _ => "STX"
  | .smb0 _ => "SMB0"
  | .dey => "DEY"
  | .bitImm _ => "BIT"
  | .txa => "TXA"
  | .styAbsX _ => "STY"
  | .styAbs _ => "STY"
  | .staAbs _ => "STA"
  | .stxAbs _ => "STX"
  | .bbs0 _ _ => "BBS0"
  | .bccRel _ => "BCC"
  | .staBpIndY _ => "STA"
  | .staBpIndZ _ => "STA"
  | .bccWrel _ => "BCC"
  | .styBpX _ => "STY"
  | .staBpX _ => "STA"
  | .stxBpY _ => "STX"
  | .smb1 _ => "SMB1"
  | .tya => "TYA"
  | .staAbsY _ => "STA"
  | .txs => "TXS"
  | .stxAbsY _ => "STX"
  | .stzAbs _ => "STZ"
  | .staAbsX _ => "STA"
  | .stzAbsX _ => "STZ"
  | .bbs1 _ _ => "BBS1"
  | .ldyImm _ => "LDY"
  | .ldaBpXInd _ => "LDA"
  | .ldxImm _ => "LDX"
  | .ldzImm _ => "LDZ"
  | .ldyBp _ => "LDY"
  | .ldaBp _ => "LDA"
  | .ldxBp _ => "LDX"
  | .smb2 _ => "SMB2"
  | .tay => "TAY"
  | .ldaImm _ => "LDA"
  | .tax => "TAX"
  | .ldzAbs _ => "LDZ"
  | .ldyAbs _ => "LDY"
  | .ldaAbs _ => "LDA"
  | .ldxAbs _ => "LDX"
  | .bbs2 _ _ => "BBS2"
  | .bcsRel _ => "BCS"
  | .ldaBpIndY _ => "LDA"
  | .ldaBpIndZ _ => "LDA"
  | .bcsWrel _ => "BCS"
  | .ldyBpX _ => "LDY"
  | .ldaBpX _ => "LDA"
  | .ldxBpY _ => "LDX"
  | .smb3 _ => "SMB3"
  | .clv => "CLV"
  | .ldaAbsY _ => "LDA"
  | .tsx => "TSX"
  | .ldzAbsX _ => "LDZ"
  | .ldyAbsX _ => "LDY"
  | .ldaAbsX _ => "LDA"
  | .ldxAbsY _ => "LDX"
  | .bbs3 _ _ => "BBS3"
  | .cpyImm _ => "CPY"
  | .cmpBpXInd _ => "CMP"
  | .cpzImm _ => "CPZ"
  | .dew _ => "DEW"
  | .cpyBp _ => "CPY"
  | .cmpBp _ => "CMP"
  | .decBp _ => "DEC"
  | .smb4 _ => "SMB4"
  | .iny => "INY"
  | .cmpImm _ => "CMP"
  | .dex => "DEX"
  | .asw _ => "ASW"
  | .cpyAbs _ => "CPY"
  | .cmpAbs _ => "CMP"
  | .decAbs _ => "DEC"
  | .bbs4 _ _ => "BBS4"
  | .bneRel _ => "BNE"
  | .cmpBpIndY _ => "CMP"
  | .cmpBpIndZ _ => "CMP"
  | .bneWrel _ => "BNE"
  | .cpzBp _ => "CPZ"
  | .cmpBpX _ => "CMP"
  | .decBpX _ => "DEC"
  | .smb5 _ => "SMB5"
  | .cld => "CLD"
  | .cmpAbsY _ => "CMP"
  | .phx => "PHX"
  | .phz => "PHZ"
  | .cpzAbs _ => "CPZ"
  | .cmpAbsX _ => "CMP"
  | .decAbsX _ => "DEC"
  | .bbs5 _ _ => "BBS5"
  | .cpxImm _ => "CPX"
  | .sbcBpXInd _ => "SBC"
  | .ldaSpIndY _ => "LDA"
  | .inw _ => "INW"
  | .cpxBp _ => "CPX"
  | .sbcBp _ => "SBC"
  | .incBp _ => "INC"
  | .smb6 _ => "SMB6"
  | .inx => "INX"
  | .sbcImm _ => "SBC"
  | .nop => "NOP"
  | .row _ => "ROW"
  | .cpxAbs _ => "CPX"
  | .sbcAbs _ => "SBC"
  | .incAbs _ => "INC"
  | .bbs6 _ _ => "BBS6"
  | .beqRel _ => "BEQ"
  | .sbcBpIndY _ => "SBC"
  | .sbcBpIndZ _ => "SBC"
  | .beqWrel _ => "BEQ"
  | .phwImmW _ => "PHW"
  | .sbcBpX _ => "SBC"
  | .incBpX _ => "INC"
  | .smb7 _ => "SMB7"
  | .sed => "SED"
  | .sbcAbsY _ => "SBC"
  | .plx => "PLX"
  | .plz => "PLZ"
  | .phwAbs _ => "PHW"
  | .sbcAbsX _ => "SBC"
  | .incAbsX _ => "INC"
  | .bbs7 _ _ => "BBS7"

/-- The addressing mode of an instruction, R95. -/
def Instr.mode (i : Instr) : Mode :=
  match i with
  | .brk _ => .implied
  | .oraBpXInd _ => .bpXInd
  | .cle => .implied
  | .see => .implied
  | .tsbBp _ => .bp
  | .oraBp _ => .bp
  | .aslBp _ => .bp
  | .rmb0 _ => .bp
  | .php => .implied
  | .oraImm _ => .imm
  | .aslA => .accum
  | .tsy => .implied
  | .tsbAbs _ => .abs
  | .oraAbs _ => .abs
  | .aslAbs _ => .abs
  | .bbr0 _ _ => .bpRel
  | .bplRel _ => .rel
  | .oraBpIndY _ => .bpIndY
  | .oraBpIndZ _ => .bpIndZ
  | .bplWrel _ => .wrel
  | .trbBp _ => .bp
  | .oraBpX _ => .bpX
  | .aslBpX _ => .bpX
  | .rmb1 _ => .bp
  | .clc => .implied
  | .oraAbsY _ => .absY
  | .incA => .accum
  | .inz => .implied
  | .trbAbs _ => .abs
  | .oraAbsX _ => .absX
  | .aslAbsX _ => .absX
  | .bbr1 _ _ => .bpRel
  | .jsrAbs _ => .abs
  | .andBpXInd _ => .bpXInd
  | .jsrAbsInd _ => .absInd
  | .jsrAbsXInd _ => .absXInd
  | .bitBp _ => .bp
  | .andBp _ => .bp
  | .rolBp _ => .bp
  | .rmb2 _ => .bp
  | .plp => .implied
  | .andImm _ => .imm
  | .rolA => .accum
  | .tys => .implied
  | .bitAbs _ => .abs
  | .andAbs _ => .abs
  | .rolAbs _ => .abs
  | .bbr2 _ _ => .bpRel
  | .bmiRel _ => .rel
  | .andBpIndY _ => .bpIndY
  | .andBpIndZ _ => .bpIndZ
  | .bmiWrel _ => .wrel
  | .bitBpX _ => .bpX
  | .andBpX _ => .bpX
  | .rolBpX _ => .bpX
  | .rmb3 _ => .bp
  | .sec => .implied
  | .andAbsY _ => .absY
  | .decA => .accum
  | .dez => .implied
  | .bitAbsX _ => .absX
  | .andAbsX _ => .absX
  | .rolAbsX _ => .absX
  | .bbr3 _ _ => .bpRel
  | .rti => .implied
  | .eorBpXInd _ => .bpXInd
  | .neg => .accum
  | .asrA => .accum
  | .asrBp _ => .bp
  | .eorBp _ => .bp
  | .lsrBp _ => .bp
  | .rmb4 _ => .bp
  | .pha => .implied
  | .eorImm _ => .imm
  | .lsrA => .accum
  | .taz => .implied
  | .jmpAbs _ => .abs
  | .eorAbs _ => .abs
  | .lsrAbs _ => .abs
  | .bbr4 _ _ => .bpRel
  | .bvcRel _ => .rel
  | .eorBpIndY _ => .bpIndY
  | .eorBpIndZ _ => .bpIndZ
  | .bvcWrel _ => .wrel
  | .asrBpX _ => .bpX
  | .eorBpX _ => .bpX
  | .lsrBpX _ => .bpX
  | .rmb5 _ => .bp
  | .cli => .implied
  | .eorAbsY _ => .absY
  | .phy => .implied
  | .tab => .implied
  | .aug _ _ _ => .aug
  | .eorAbsX _ => .absX
  | .lsrAbsX _ => .absX
  | .bbr5 _ _ => .bpRel
  | .rts => .implied
  | .adcBpXInd _ => .bpXInd
  | .rtn _ => .imm
  | .bsr _ => .wrel
  | .stzBp _ => .bp
  | .adcBp _ => .bp
  | .rorBp _ => .bp
  | .rmb6 _ => .bp
  | .pla => .implied
  | .adcImm _ => .imm
  | .rorA => .accum
  | .tza => .implied
  | .jmpAbsInd _ => .absInd
  | .adcAbs _ => .abs
  | .rorAbs _ => .abs
  | .bbr6 _ _ => .bpRel
  | .bvsRel _ => .rel
  | .adcBpIndY _ => .bpIndY
  | .adcBpIndZ _ => .bpIndZ
  | .bvsWrel _ => .wrel
  | .stzBpX _ => .bpX
  | .adcBpX _ => .bpX
  | .rorBpX _ => .bpX
  | .rmb7 _ => .bp
  | .sei => .implied
  | .adcAbsY _ => .absY
  | .ply => .implied
  | .tba => .implied
  | .jmpAbsXInd _ => .absXInd
  | .adcAbsX _ => .absX
  | .rorAbsX _ => .absX
  | .bbr7 _ _ => .bpRel
  | .bruRel _ => .rel
  | .staBpXInd _ => .bpXInd
  | .staSpIndY _ => .spIndY
  | .bruWrel _ => .wrel
  | .styBp _ => .bp
  | .staBp _ => .bp
  | .stxBp _ => .bp
  | .smb0 _ => .bp
  | .dey => .implied
  | .bitImm _ => .imm
  | .txa => .implied
  | .styAbsX _ => .absX
  | .styAbs _ => .abs
  | .staAbs _ => .abs
  | .stxAbs _ => .abs
  | .bbs0 _ _ => .bpRel
  | .bccRel _ => .rel
  | .staBpIndY _ => .bpIndY
  | .staBpIndZ _ => .bpIndZ
  | .bccWrel _ => .wrel
  | .styBpX _ => .bpX
  | .staBpX _ => .bpX
  | .stxBpY _ => .bpY
  | .smb1 _ => .bp
  | .tya => .implied
  | .staAbsY _ => .absY
  | .txs => .implied
  | .stxAbsY _ => .absY
  | .stzAbs _ => .abs
  | .staAbsX _ => .absX
  | .stzAbsX _ => .absX
  | .bbs1 _ _ => .bpRel
  | .ldyImm _ => .imm
  | .ldaBpXInd _ => .bpXInd
  | .ldxImm _ => .imm
  | .ldzImm _ => .imm
  | .ldyBp _ => .bp
  | .ldaBp _ => .bp
  | .ldxBp _ => .bp
  | .smb2 _ => .bp
  | .tay => .implied
  | .ldaImm _ => .imm
  | .tax => .implied
  | .ldzAbs _ => .abs
  | .ldyAbs _ => .abs
  | .ldaAbs _ => .abs
  | .ldxAbs _ => .abs
  | .bbs2 _ _ => .bpRel
  | .bcsRel _ => .rel
  | .ldaBpIndY _ => .bpIndY
  | .ldaBpIndZ _ => .bpIndZ
  | .bcsWrel _ => .wrel
  | .ldyBpX _ => .bpX
  | .ldaBpX _ => .bpX
  | .ldxBpY _ => .bpY
  | .smb3 _ => .bp
  | .clv => .implied
  | .ldaAbsY _ => .absY
  | .tsx => .implied
  | .ldzAbsX _ => .absX
  | .ldyAbsX _ => .absX
  | .ldaAbsX _ => .absX
  | .ldxAbsY _ => .absY
  | .bbs3 _ _ => .bpRel
  | .cpyImm _ => .imm
  | .cmpBpXInd _ => .bpXInd
  | .cpzImm _ => .imm
  | .dew _ => .bp
  | .cpyBp _ => .bp
  | .cmpBp _ => .bp
  | .decBp _ => .bp
  | .smb4 _ => .bp
  | .iny => .implied
  | .cmpImm _ => .imm
  | .dex => .implied
  | .asw _ => .abs
  | .cpyAbs _ => .abs
  | .cmpAbs _ => .abs
  | .decAbs _ => .abs
  | .bbs4 _ _ => .bpRel
  | .bneRel _ => .rel
  | .cmpBpIndY _ => .bpIndY
  | .cmpBpIndZ _ => .bpIndZ
  | .bneWrel _ => .wrel
  | .cpzBp _ => .bp
  | .cmpBpX _ => .bpX
  | .decBpX _ => .bpX
  | .smb5 _ => .bp
  | .cld => .implied
  | .cmpAbsY _ => .absY
  | .phx => .implied
  | .phz => .implied
  | .cpzAbs _ => .abs
  | .cmpAbsX _ => .absX
  | .decAbsX _ => .absX
  | .bbs5 _ _ => .bpRel
  | .cpxImm _ => .imm
  | .sbcBpXInd _ => .bpXInd
  | .ldaSpIndY _ => .spIndY
  | .inw _ => .bp
  | .cpxBp _ => .bp
  | .sbcBp _ => .bp
  | .incBp _ => .bp
  | .smb6 _ => .bp
  | .inx => .implied
  | .sbcImm _ => .imm
  | .nop => .implied
  | .row _ => .abs
  | .cpxAbs _ => .abs
  | .sbcAbs _ => .abs
  | .incAbs _ => .abs
  | .bbs6 _ _ => .bpRel
  | .beqRel _ => .rel
  | .sbcBpIndY _ => .bpIndY
  | .sbcBpIndZ _ => .bpIndZ
  | .beqWrel _ => .wrel
  | .phwImmW _ => .immW
  | .sbcBpX _ => .bpX
  | .incBpX _ => .bpX
  | .smb7 _ => .bp
  | .sed => .implied
  | .sbcAbsY _ => .absY
  | .plx => .implied
  | .plz => .implied
  | .phwAbs _ => .abs
  | .sbcAbsX _ => .absX
  | .incAbsX _ => .absX
  | .bbs7 _ _ => .bpRel

/-- The data sheet's operand syntax, R101 (BP REL: not shown there). -/
def Mode.dsSyntax : Mode → Option String
  | .implied | .aug => some ""
  | .accum => some "A"
  | .imm | .immW => some "#"
  | .bp | .abs => some "address"
  | .bpX | .absX => some "address, X"
  | .bpY | .absY => some "address, Y"
  | .bpXInd => some "(address, X)"
  | .bpIndY => some "(address), Y"
  | .bpIndZ => some "(address), Z"
  | .spIndY => some "(d, SP), Y"
  | .rel | .wrel => some "label"
  | .absInd => some "(address)"
  | .absXInd => some "(address, X)"
  | .bpRel => none

/-- The cross-assembler's operand syntax, R102. -/
def Mode.otSyntax : Mode → String
  | .implied | .accum | .aug => ""
  | .imm => "#imm8"
  | .immW => "#imm16"
  | .bp => "zp"
  | .bpX => "zp, x"
  | .bpY => "zp, y"
  | .abs => "abs16"
  | .absX => "abs16, x"
  | .absY => "abs16, y"
  | .bpXInd => "(zp, x)"
  | .bpIndY => "(zp), y"
  | .bpIndZ => "(zp), z"
  | .spIndY => "(o8, s), y"
  | .rel => "rel8"
  | .wrel => "rel16"
  | .absInd => "(abs16)"
  | .absXInd => "(abs16, x)"
  | .bpRel => "zp, rel8"

/-- A second spelling of the mnemonic, R103: BRA for BRU. -/
def Instr.otherMnemonic (i : Instr) : Option String :=
  if i.mnemonic = "BRU" then some "BRA" else none

end Sys2Proof
end

