-- ==== Sys2Proof/Machine/State.lean ====
section
/-! DEFINITION. The state of the machine (spec/10_state.md R20 to R45) as plain data, the reasons a
step could stop, and the state after reset. -/

namespace Sys2Proof.Machine

/-- R341: "No instruction faults." Every opcode is defined, no access can fault and nothing is
privileged, so there is no fault and this type has no constructor: that no step faults is a fact of
the type. Safe: nothing raises one. -/
inductive Fault where
deriving DecidableEq, Repr

/-- Why a step gives no meaning. No instruction of this machine is refused. -/
inductive Refusal where
  /-- Kept for the host's form of `exec`: an instruction with no meaning yet. No arm, no meaning and
  no step answers it. Safe. -/
  | notModelled (mnemonic : String)
deriving DecidableEq, Repr

/-- The address space, R20, R38: pairs of an address and a byte, addresses strictly rising, no byte
equal to what an unlisted address reads as (`Memory.wf`). -/
abbrev Memory := List Host.Cell

/-- The seven stored flags of P, R25, R31. The eighth, B, is not a stored bit (R34). -/
structure Flags where
  n  : Bool
  v  : Bool
  e  : Bool
  d  : Bool
  i  : Bool
  zf : Bool
  c  : Bool
deriving DecidableEq, Repr

/-- The input pins (`true` is high), whether the clock runs, and the last sampled level of SO
(R39, R40, R42). -/
structure Pins where
  irq       : Bool
  nmi       : Bool
  so        : Bool
  rdy       : Bool
  res       : Bool
  clock     : Bool
  soSampled : Bool
deriving DecidableEq, Repr

/-- What the environment does at an instruction boundary (R39 to R42, R73, R342 to R347, R383). -/
inductive Input where
  /-- The IRQ pin goes to a level (`true` is high, no request), R342. -/
  | irq (high : Bool)
  /-- The NMI pin goes to a level; a fall sets the latch, R345. -/
  | nmi (high : Bool)
  /-- The SO pin goes to a level; a sampled fall sets V, R40, R346. -/
  | so (high : Bool)
  /-- The RDY pin goes to a level; low halts the processor, R42, R347. -/
  | rdy (high : Bool)
  /-- The RES pin goes to a level; a rise makes the reset sequence due, R380. -/
  | res (high : Bool)
  /-- RES falls in the middle of what begins at this boundary, R383. -/
  | resCut
  /-- The input clock stops or runs, R42, R364. -/
  | clock (running : Bool)
  /-- Another bus master writes a byte; only while RDY is low, R73. -/
  | dma (address : Word) (value : Byte)
  /-- RDY goes low before one bus cycle of what begins at this boundary and high again, and meanwhile
  another bus master makes these writes in their order, R42, R66, R73. -/
  | halt (before : BusSlot) (writes : List (Word × Byte))
deriving DecidableEq, Repr

/-- One bus cycle as the pins show it, R60 to R63: the access it is, the address on A0-A15, whether R/W
is low, the byte the processor drives on D0-D7 (none where its drivers are off, R73), and whether RDY is
high. While RDY is low the processor stands on the cycle with the address held (R42). -/
structure BusCycle where
  slot    : BusSlot
  address : Word
  write   : Bool
  data    : Option Byte
  ready   : Bool
deriving DecidableEq, Repr

/-- A write of another bus master while RDY is low before a bus cycle of this step, R66, R73. -/
structure DmaWrite where
  before  : BusSlot
  address : Word
  value   : Byte
deriving DecidableEq, Repr

/-- The state of the machine. `p` holds P; `sp` holds SPH:SPL (R45); `pins`, `inputs`, `resCut`,
`bus`, `dma`, `stalls` and `tick` are the environment's side and the model's own (INVENTORY.md, State). -/
structure State where
  /-- Accumulator, R21. -/
  a          : Byte
  /-- Index register X, R22. -/
  x          : Byte
  /-- Index register Y, R22. -/
  y          : Byte
  /-- Index register Z, R22, R23. -/
  z          : Byte
  /-- Base page register, R24. -/
  b          : Byte
  /-- Stack pointer SPH:SPL, R26. -/
  sp         : Word
  /-- Program counter PCH:PCL, R30. -/
  pc         : Word
  /-- Processor status register, R25, R31. -/
  p          : Flags
  /-- The 64K address space, R38. -/
  mem        : Memory
  /-- The parameters of spec/92_eei_decisions.md; no step changes them. -/
  cfg        : Params
  /-- R41: the opcode just completed was a single-cycle one. -/
  lastSingle : Bool
  /-- NMI pending latch, R39. -/
  nmiLatch   : Bool
  /-- RES has risen and the reset sequence has not run, R380, R381. -/
  resetDue   : Bool
  /-- The model's own: RES falls inside what this step does, R383. -/
  resCut     : Bool
  /-- Levels of the input pins, R42, R342, R345, R346. -/
  pins       : Pins
  /-- The model's own: what the environment will do, one batch per boundary, R343. -/
  inputs     : List (List Input)
  /-- The bus cycles of the last step, R61, R67; inside a step, the write cycles made so far. -/
  bus        : List BusCycle
  /-- The model's own: what other bus masters write during this step and the processor has not
  overwritten, in the order of the cycles; empty between steps, R66, R73. -/
  dma        : List DmaWrite
  /-- The model's own: the cycles of this step before which RDY goes low; empty between steps, R42. -/
  stalls     : List BusSlot
  /-- The model's own: the counter the free values are applied to. -/
  tick       : Nat
deriving DecidableEq, Repr

/-- All inputs inactive, the clock running (R381: "RES should be held 'high'"). -/
def Pins.idle : Pins where
  irq := true
  nmi := true
  so := true
  rdy := true
  res := true
  clock := true
  soSampled := true

/-- The machine right after reset, R44, R380. The spec gives B, Z, SPH, E, I and pc: pc is the word at
the reset vector, which reads $0000 in a memory that lists nothing (log 1, log 6). Everything else is
unspecified there and named by the log: A, X, Y, SPL, N, V, D, Zf, C (log 2), the NMI latch (log 3), the
open recognition window (log 24), no reset due (log 6),
pins and inputs (log 4), parameters (log 5), the counter (log 7). -/
def State.reset : State where
  a := 0x00
  x := 0x00
  y := 0x00
  z := 0x00
  b := 0x00
  sp := 0x0100
  pc := 0x0000
  p := { n := false, v := false, e := true, d := false, i := true, zf := false, c := false }
  mem := []
  cfg := Params.specDefault
  lastSingle := false
  nmiLatch := false
  resetDue := false
  resCut := false
  pins := Pins.idle
  inputs := []
  bus := []
  dma := []
  stalls := []
  tick := 0

end Sys2Proof.Machine
end

