-- ==== Sys2Proof/Machine/Ops.lean ====
section
/-! DEFINITION. The named operations over registers, memory and the stack (spec/10_state.md R24 to
R30, spec/20_memory.md R60 to R70), taking a trap and returning from one (spec/60_exceptions.md R352,
spec/44_special.md R323). Reads change no state; the cycles of one step are told apart by their slot
(log 8, log 16). -/

namespace Sys2Proof.Machine

/-- What a step or a meaning answers. -/
abbrev Result := Host.Outcome State Fault Refusal

/-! ## Writing one piece of state -/

/-- `A <- v`. -/
def State.setA (s : State) (v : Byte) : State := { s with a := v }
/-- `X <- v`. -/
def State.setX (s : State) (v : Byte) : State := { s with x := v }
/-- `Y <- v`. -/
def State.setY (s : State) (v : Byte) : State := { s with y := v }
/-- `Z <- v`, the register. -/
def State.setZ (s : State) (v : Byte) : State := { s with z := v }
/-- `B <- v`. -/
def State.setB (s : State) (v : Byte) : State := { s with b := v }
/-- `SP <- v`. -/
def State.setSp (s : State) (v : Word) : State := { s with sp := v }
/-- `pc <- v`. -/
def State.setPc (s : State) (v : Word) : State := { s with pc := v }
/-- Writes the flags. -/
def State.setP (s : State) (v : Flags) : State := { s with p := v }
/-- Replaces the memory. -/
def State.setMem (s : State) (v : Memory) : State := { s with mem := v }
/-- Writes the recognition window, R41. -/
def State.setLastSingle (s : State) (v : Bool) : State := { s with lastSingle := v }
/-- Writes the NMI pending latch, R39. -/
def State.setNmiLatch (s : State) (v : Bool) : State := { s with nmiLatch := v }
/-- Makes the reset sequence due or not. -/
def State.setResetDue (s : State) (v : Bool) : State := { s with resetDue := v }
/-- Says whether RES falls inside this step. -/
def State.setResCut (s : State) (v : Bool) : State := { s with resCut := v }
/-- Sets the pin levels. -/
def State.setPins (s : State) (v : Pins) : State := { s with pins := v }
/-- Sets the schedule of inputs. -/
def State.setInputs (s : State) (v : List (List Input)) : State := { s with inputs := v }
/-- Records the bus cycles of a step. -/
def State.setBus (s : State) (v : List BusCycle) : State := { s with bus := v }
/-- Sets the pending writes of other bus masters. -/
def State.setDma (s : State) (v : List DmaWrite) : State := { s with dma := v }
/-- Sets the cycles before which RDY goes low. -/
def State.setStalls (s : State) (v : List BusSlot) : State := { s with stalls := v }
/-- Sets the counter of the free values. -/
def State.setTick (s : State) (v : Nat) : State := { s with tick := v }

/-- Ends an instruction of `len` bytes that began in state `s` and left `t`: `pc <- pc0 +16 len`, R92. -/
def retire (s : State) (len : Word) (t : State) : Result := .next (t.setPc (s.pc + len))

/-! ## Bus cycles and the writes of other masters, R60 to R67, R73 -/

/-- The place of an access in the order of R67. -/
def slotRank : BusSlot → Nat
  | .opcode    => 0
  | .operand1  => 1
  | .operand2  => 2
  | .operand3  => 3
  | .sourceLo  => 4
  | .sourceHi  => 5
  | .push1     => 6
  | .push2     => 7
  | .push3     => 8
  | .pull1     => 9
  | .pull2     => 10
  | .pull3     => 11
  | .pointerLo => 12
  | .pointerHi => 13
  | .dataLo    => 14
  | .dataHi    => 15
  | .writeLo   => 16
  | .writeHi   => 17
  | .vectorLo  => 18
  | .vectorHi  => 19

/-- SYNC marks the opcode fetch, R61. -/
def BusCycle.sync (c : BusCycle) : Bool := c.slot == .opcode

/-- A read cycle, R62. -/
def readCycle (slot : BusSlot) (a : Word) : BusCycle :=
  { slot := slot, address := a, write := false, data := none, ready := true }

/-- A write cycle, R63: the byte stands on D0-D7. -/
def writeCycle (slot : BusSlot) (a : Word) (v : Byte) : BusCycle :=
  { slot := slot, address := a, write := true, data := some v, ready := true }

/-- The processor stands on a cycle with RDY low: the address is held and its data drivers are off, R42,
R73. -/
def heldCycle (c : BusCycle) : BusCycle := { c with data := none, ready := false }

/-- Another master's write that comes before a given cycle, at a given address. -/
def DmaWrite.hits (w : DmaWrite) (slot : BusSlot) (a : Word) : Bool :=
  w.address == a && decide (slotRank w.before ≤ slotRank slot)

/-- The byte of an address at a given cycle: the last one another master has put there, else `v`. -/
def dmaByte (slot : BusSlot) (a : Word) : List DmaWrite → Byte → Byte
  | [], v => v
  | w :: ws, v => dmaByte slot a ws (if w.hits slot a then w.value else v)

/-- Adds another master's write in the order of the cycles. -/
def insertDma (w : DmaWrite) : List DmaWrite → List DmaWrite
  | [] => [w]
  | x :: xs => if slotRank w.before < slotRank x.before then w :: x :: xs else x :: insertDma w xs

/-! ## Memory, R38, R60 to R63, R70 -/

/-- What an address that memory does not list reads as (log 1; the convention of
spec/95_test_vectors.md: "every memory byte not listed = `$00`"). -/
def unlistedByte : Byte := 0x00

/-- The byte at an address. -/
def Memory.read : Memory → Nat → Byte
  | [], _ => unlistedByte
  | (k, v) :: m, a => if k = a then v else Memory.read m a

/-- Stores a byte, keeping the canonical form. -/
def Memory.write : Memory → Nat → Byte → Memory
  | [], a, v => if v = unlistedByte then [] else [(a, v)]
  | (k, w) :: m, a, v =>
    if a < k then (if v = unlistedByte then (k, w) :: m else (a, v) :: (k, w) :: m)
    else if a = k then (if v = unlistedByte then m else (a, v) :: m)
    else (k, w) :: Memory.write m a v

/-- Every address of a memory is above `lo`, addresses rise strictly, all are below 65,536 (R38), and
no byte is what an unlisted address reads as. -/
def Memory.wfAbove : Nat → Memory → Bool
  | _, [] => true
  | lo, (k, v) :: m =>
    decide (lo ≤ k) && decide (k < 65536) && (v != unlistedByte) && Memory.wfAbove (k + 1) m

/-- The canonical form of memory. -/
def Memory.wf (m : Memory) : Bool := Memory.wfAbove 0 m

/-- A region holds an address. -/
def Region.holds (r : Region) (a : Word) : Bool :=
  decide (r.base ≤ a.toNat) && decide (a.toNat < r.base + r.size)

/-- What answers an address, D29: the first region that holds it; RAM where none does (log 5). -/
def answerAt : MemMap → Word → Answer
  | [], _ => .ram
  | r :: m, a => if Region.holds r a then r.answer else answerAt m a

/-- What answers an address on this platform. -/
def State.answer (s : State) (a : Word) : Answer := answerAt s.cfg.memMap a

/-- `MemRead(a, 1)`, R62, R72, in a given cycle of the step: plain memory gives the byte last written by
any master, a device its answer, and where nothing answers the value is free (D28). -/
def State.read (s : State) (slot : BusSlot) (a : Word) : Byte :=
  match s.answer a with
  | .ram => dmaByte slot a s.dma (Memory.read s.mem a.toNat)
  | .rom => Memory.read s.mem a.toNat
  | .device => Config.deviceByte s.tick slot a
  | .nothing => Config.floatingByte s.tick slot a

/-- The memory after a write by any master, R63: RAM stores, ROM and nothing ignore, a device takes the
byte and no memory changes (log 9). -/
def State.memAfter (s : State) (a : Word) (v : Byte) : Memory :=
  match s.answer a with
  | .ram => Memory.write s.mem a.toNat v
  | .rom => s.mem
  | .device => s.mem
  | .nothing => s.mem

/-- What other masters have still to write once the processor has written to an address in a cycle: what
they put there before that cycle is overwritten. -/
def State.dmaAfter (s : State) (slot : BusSlot) (a : Word) : List DmaWrite :=
  s.dma.filter (fun w => !w.hits slot a)

/-- `MemWrite(a, 1, v)`, R63, in a given cycle of the step. -/
def State.write (s : State) (slot : BusSlot) (a : Word) (v : Byte) : State :=
  ((s.setMem (s.memAfter a v)).setDma (s.dmaAfter slot a)).setBus (s.bus ++ [writeCycle slot a v])

/-- The write of an instruction at its effective address. -/
def State.writeData (s : State) (ea : Word) (v : Byte) : State := s.write .writeLo ea v

/-- A write of another bus master, R73: no cycle of the processor's. -/
def State.poke (s : State) (a : Word) (v : Byte) : State := s.setMem (s.memAfter a v)

/-- The memory with all that other masters wrote during the step. -/
def State.landDma (s : State) : State :=
  ((s.dma.foldl (fun t w => t.poke w.address w.value) s).setDma []).setStalls []

/-- The data read of an instruction at its effective address. -/
def State.dataAt (s : State) (ea : Word) : Byte := s.read .dataLo ea

/-- A word operand `Mw`, R139: the low byte is read first. -/
def State.wordAt (s : State) (loAddr hiAddr : Word) : Word :=
  wordOf (s.read .dataHi hiAddr) (s.read .dataLo loAddr)

/-- Writes a word operand, low byte first (R67, D10). -/
def State.writeWord (s : State) (loAddr hiAddr : Word) (w : Word) : State :=
  (s.write .writeLo loAddr (loByte w)).write .writeHi hiAddr (hiByte w)

/-! ## Result flags, R33 -/

/-- `SetNZ(v)`, R33. -/
def Flags.nz (p : Flags) (v : Byte) : Flags := { p with n := v.msb, zf := v == 0 }

/-- `SetNZ16(w)`, R33. -/
def Flags.nz16 (p : Flags) (w : Word) : Flags := { p with n := w.msb, zf := w == 0 }

/-- A load, pull or transfer into A: `A <- v; SetNZ(v)`. -/
def State.putA (s : State) (v : Byte) : State := (s.setA v).setP (s.p.nz v)
/-- A load, pull or transfer into X: `X <- v; SetNZ(v)`. -/
def State.putX (s : State) (v : Byte) : State := (s.setX v).setP (s.p.nz v)
/-- A load, pull or transfer into Y: `Y <- v; SetNZ(v)`. -/
def State.putY (s : State) (v : Byte) : State := (s.setY v).setP (s.p.nz v)
/-- A load, pull or transfer into Z: `Z <- v; SetNZ(v)`, the register. -/
def State.putZ (s : State) (v : Byte) : State := (s.setZ v).setP (s.p.nz v)

/-! ## The stack, R26 to R29 -/

/-- SPH, R26, R45. -/
def State.sph (s : State) : Byte := hiByte s.sp

/-- SPL, R26, R45. -/
def State.spl (s : State) : Byte := loByte s.sp

/-- The stack pointer moved up by `n` bytes under a given E, R27, R28: only SPL in byte mode, all 16
bits in word mode. -/
def spUp (e : Bool) (sp : Word) (n : Byte) : Word :=
  if e then wordOf (hiByte sp) (loByte sp + n) else sp + n.setWidth 16

/-- The stack pointer moved down by `n` bytes under a given E, R27, R28. -/
def spDown (e : Bool) (sp : Word) (n : Byte) : Word :=
  if e then wordOf (hiByte sp) (loByte sp - n) else sp - n.setWidth 16

/-- `DecSP()`, R28. -/
def State.decSp (s : State) : State := s.setSp (spDown s.p.e s.sp 1)

/-- `IncSP()`, R28. -/
def State.incSp (s : State) : State := s.setSp (spUp s.p.e s.sp 1)

/-- `Push(v)`, R29: write at SP, then step down. -/
def State.push (s : State) (slot : BusSlot) (v : Byte) : State := (s.write slot s.sp v).decSp

/-- The byte `Pull()` returns, R29: SP is stepped up, then read. The state after it is `State.incSp`. -/
def State.pulled (s : State) (slot : BusSlot) : Byte := s.read slot s.incSp.sp

/-- `CallPush(r)`, R150: high byte first. -/
def State.callPush (s : State) (r : Word) : State := (s.push .push1 (hiByte r)).push .push2 (loByte r)

/-- The address `ReturnPull()` gives, R150: low byte, then high byte, plus 1. -/
def State.returnAddress (s : State) : Word :=
  wordOf (s.incSp.pulled .pull2) (s.pulled .pull1) + 1

/-- The state after `ReturnPull()`: two bytes pulled. -/
def State.afterReturnPull (s : State) : State := s.incSp.incSp

/-- `AdjustSP(n)`, R166. -/
def State.adjustSp (s : State) (n : Byte) : State := s.setSp (spUp s.p.e s.sp n)

/-! ## The status byte, R32, R34 -/

/-- `Pimage(b)`, R32: N V E B D I Z C from bit 7 down. -/
def Flags.image (p : Flags) (b : Bool) : Byte :=
  BitVec.ofBool p.n ++ BitVec.ofBool p.v ++ BitVec.ofBool p.e ++ BitVec.ofBool b ++
    BitVec.ofBool p.d ++ BitVec.ofBool p.i ++ BitVec.ofBool p.zf ++ BitVec.ofBool p.c

/-- `LoadP(v)`, R32: bit 4 is ignored, bit 5 reaches E only under `PULL_P_WRITES_E` (D3). -/
def Flags.load (p : Flags) (writesE : Bool) (v : Byte) : Flags where
  n := v.getLsbD 7
  v := v.getLsbD 6
  e := if writesE then v.getLsbD 5 else p.e
  d := v.getLsbD 3
  i := v.getLsbD 2
  zf := v.getLsbD 1
  c := v.getLsbD 0

/-- `LoadP(Pull())`, the first pull of PLP and RTI. -/
def State.pullP (s : State) : State :=
  s.incSp.setP (s.p.load s.cfg.pullPWritesE (s.pulled .pull1))

/-! ## Vectors and traps, R70, R340, R352 -/

/-- The NMI vector's address, R70. -/
def nmiVector : Word := 0xFFFA
/-- The reset vector's address, R70. -/
def resetVector : Word := 0xFFFC
/-- The vector IRQ and BRK share, R70. -/
def irqVector : Word := 0xFFFE

/-- The address held in a vector, low byte first. -/
def State.vectorAt (s : State) (vector : Word) : Word :=
  wordOf (s.read .vectorHi (vector + 1)) (s.read .vectorLo vector)

/-- The flags after trap entry, R352, D4: I set, D per `TRAP_CLEARS_D`. -/
def trapFlags (how : TrapClearsD) (tick : Nat) (p : Flags) : Flags :=
  { p with
    i := true
    d := match how with
      | .cleared => false
      | .unchanged => p.d
      | .unspecified => Config.trapD tick }

/-- The three pushes of trap entry, R352: PCH, PCL, then P as it was. -/
def State.pushTrapFrame (s : State) (ret : Word) (b : Bool) : State :=
  ((s.push .push1 (hiByte ret)).push .push2 (loByte ret)).push .push3 (s.p.image b)

/-- `TrapEntry(vector, ret, b)`, R352: taking an exception, shared by BRK, IRQ and NMI. -/
def State.trapEntry (s : State) (vector ret : Word) (b : Bool) : State :=
  ((s.pushTrapFrame ret b).setP (trapFlags s.cfg.trapClearsD s.tick s.p)).setPc
    ((s.pushTrapFrame ret b).vectorAt vector)

/-- Returning from an exception, R323: P, then PCL, then PCH are pulled, each step under the E of its
moment; no plus 1. -/
def State.trapReturn (s : State) : State :=
  (s.pullP.incSp.incSp).setPc
    (wordOf (s.pullP.incSp.pulled .pull3) (s.pullP.pulled .pull2))

end Sys2Proof.Machine
end

