-- ==== Sys2Proof/Machine/Operands.lean ====
section
/-! DEFINITION. Effective addresses and branch targets of the addressing modes,
spec/40_addressing_modes.md R120 to R141. None changes a register; all read the state in which the
instruction began unless said otherwise. -/

namespace Sys2Proof.Machine

/-- `sext_16(v)` of spec/00_scope.md section 5. -/
def sext16 (v : Byte) : Word := v.signExtend 16

/-- `zext_16(v)`. -/
def zext16 (v : Byte) : Word := v.setWidth 16

/-- `bp(d)`, R122: the base-page address. -/
def State.bp (s : State) (d : Byte) : Word := wordOf s.b d

/-- R122. -/
def eaBp (d : Byte) (s : State) : Word := s.bp d

/-- The second byte of a base-page word or pointer: it stays in the base page, R139, D12. -/
def eaBpNext (d : Byte) (s : State) : Word := s.bp (d + 1)

/-- R125: no carry into the high byte. -/
def eaBpX (d : Byte) (s : State) : Word := s.bp (d + s.x)

/-- R126. -/
def eaBpY (d : Byte) (s : State) : Word := s.bp (d + s.y)

/-- R127. -/
def eaAbs (w : Word) (_ : State) : Word := w

/-- R128: the carry goes into the high byte, the sum wraps at 65,536 (D13). -/
def eaAbsX (w : Word) (s : State) : Word := w + zext16 s.x

/-- R129. -/
def eaAbsY (w : Word) (s : State) : Word := w + zext16 s.y

/-- The pointer word at two addresses, low byte read first. -/
def State.pointer (s : State) (loAddr hiAddr : Word) : Word :=
  wordOf (s.read .pointerHi hiAddr) (s.read .pointerLo loAddr)

/-- R130: pre-indexed by X inside the base page. -/
def eaBpXInd (d : Byte) (s : State) : Word := s.pointer (s.bp (d + s.x)) (s.bp (d + s.x + 1))

/-- The pointer of (BP),Y and (BP),Z, R131. -/
def bpPointer (d : Byte) (s : State) : Word := s.pointer (s.bp d) (s.bp (d + 1))

/-- R131: post-indexed by Y. -/
def eaBpIndY (d : Byte) (s : State) : Word := bpPointer d s + zext16 s.y

/-- R132: post-indexed by Z. -/
def eaBpIndZ (d : Byte) (s : State) : Word := bpPointer d s + zext16 s.z

/-- The address of the low byte of a (D,SP),Y pointer, R133: in byte mode inside the stack page where
`STACK_REL_PAGE_WRAP` holds. -/
def spPointerLo (d : Byte) (s : State) : Word :=
  if s.p.e && s.cfg.stackRelPageWrap then wordOf s.sph (s.spl + d) else s.sp + zext16 d

/-- The address of the high byte of a (D,SP),Y pointer, R133. -/
def spPointerHi (d : Byte) (s : State) : Word :=
  if s.p.e && s.cfg.stackRelPageWrap then wordOf s.sph (s.spl + d + 1) else s.sp + zext16 d + 1

/-- R133. -/
def eaSpIndY (d : Byte) (s : State) : Word :=
  s.pointer (spPointerLo d s) (spPointerHi d s) + zext16 s.y

/-- R134: from the address of the next instruction. -/
def targetRel (r : Byte) (s : State) : Word := s.pc + 2 + sext16 r

/-- R135: from the address of the third byte. -/
def targetWrel (w : Word) (s : State) : Word := s.pc + 2 + w

/-- R138: from the address of the next instruction. -/
def targetBpRel (r : Byte) (s : State) : Word := s.pc + 3 + sext16 r

/-- R136: the pointer at `w`, with the full 16-bit carry (D27). -/
def targetAbsInd (w : Word) (s : State) : Word := s.pointer w (w + 1)

/-- R137. -/
def targetAbsXInd (w : Word) (s : State) : Word :=
  s.pointer (w + zext16 s.x) (w + zext16 s.x + 1)

end Sys2Proof.Machine
end

