-- ==== Sys2Proof/Machine/Bus.lean ====
section
/-! DEFINITION. The bus cycles of a step as A0-A15, R/W, SYNC, D0-D7 and RDY show them (R60 to R63): the
accesses its rules list, in the order of spec/20_memory.md R67. The write cycles are those the meanings
make (`State.write` records them); the read cycles are listed here. Cycles beyond them are not in any
source and not recorded (R68, D11; log 17). -/

namespace Sys2Proof.Machine

/-- The fetch of `n` instruction bytes in ascending order, R92. -/
def fetchCycles (n : Nat) (s : State) : List BusCycle :=
  [readCycle .opcode s.pc, readCycle .operand1 (s.pc + 1), readCycle .operand2 (s.pc + 2),
    readCycle .operand3 (s.pc + 3)].take n

/-- A pointer, low byte first. -/
def pointerCycles (loAddr hiAddr : Word) : List BusCycle :=
  [readCycle .pointerLo loAddr, readCycle .pointerHi hiAddr]

/-- A vector, low byte first, R352, R380. -/
def vectorCycles (vector : Word) : List BusCycle :=
  [readCycle .vectorLo vector, readCycle .vectorHi (vector + 1)]

/-- The pointer reads of (BP,X), R130. -/
def bpXIndCycles (d : Byte) (s : State) : List BusCycle :=
  pointerCycles (s.bp (d + s.x)) (s.bp (d + s.x + 1))

/-- The pointer reads of (BP),Y and (BP),Z, R131. -/
def bpIndCycles (d : Byte) (s : State) : List BusCycle := pointerCycles (s.bp d) (s.bp (d + 1))

/-- The pointer reads of (D,SP),Y, R133. -/
def spIndCycles (d : Byte) (s : State) : List BusCycle :=
  pointerCycles (spPointerLo d s) (spPointerHi d s)

/-- The two reads of a word operand, low byte first (R66, R67). -/
def wordReads (loAddr hiAddr : Word) : List BusCycle :=
  [readCycle .dataLo loAddr, readCycle .dataHi hiAddr]

/-- The pull `n` bytes up from SP, R29. -/
def pullCycle (slot : BusSlot) (n : Byte) (s : State) : BusCycle :=
  readCycle slot (spUp s.p.e s.sp n)

/-- The pulls of RTS, R165. -/
def returnCycles (s : State) : List BusCycle := [pullCycle .pull1 1 s, pullCycle .pull2 2 s]

/-- The pulls of RTN under `RTN_ORDER`, R166. -/
def rtnCycles (n : Byte) (s : State) : List BusCycle :=
  match s.cfg.rtnOrder with
  | .pullThenAdjust => returnCycles s
  | .adjustThenPull => returnCycles (s.adjustSp n)

/-- The pulls of RTI, each under the E of its moment, R323. -/
def rtiCycles (s : State) : List BusCycle :=
  [pullCycle .pull1 1 s, pullCycle .pull2 1 s.pullP, pullCycle .pull3 2 s.pullP]

/-- The read cycles of an instruction that begins in state `s`. -/
def readCycles (i : Instr) (s : State) : List BusCycle :=
  match i with
  | .brk _ => fetchCycles 2 s ++ vectorCycles irqVector
  | .oraBpXInd d => fetchCycles 2 s ++ bpXIndCycles d s ++ [readCycle .dataLo (eaBpXInd d s)]
  | .cle => fetchCycles 1 s
  | .see => fetchCycles 1 s
  | .tsbBp d => fetchCycles 2 s ++ [readCycle .dataLo (eaBp d s)]
  | .oraBp d => fetchCycles 2 s ++ [readCycle .dataLo (eaBp d s)]
  | .aslBp d => fetchCycles 2 s ++ [readCycle .dataLo (eaBp d s)]
  | .rmb0 d => fetchCycles 2 s ++ [readCycle .dataLo (eaBp d s)]
  | .php => fetchCycles 1 s
  | .oraImm _ => fetchCycles 2 s
  | .aslA => fetchCycles 1 s
  | .tsy => fetchCycles 1 s
  | .tsbAbs w => fetchCycles 3 s ++ [readCycle .dataLo (eaAbs w s)]
  | .oraAbs w => fetchCycles 3 s ++ [readCycle .dataLo (eaAbs w s)]
  | .aslAbs w => fetchCycles 3 s ++ [readCycle .dataLo (eaAbs w s)]
  | .bbr0 d _ => fetchCycles 3 s ++ [readCycle .dataLo (eaBp d s)]
  | .bplRel _ => fetchCycles 2 s
  | .oraBpIndY d => fetchCycles 2 s ++ bpIndCycles d s ++ [readCycle .dataLo (eaBpIndY d s)]
  | .oraBpIndZ d => fetchCycles 2 s ++ bpIndCycles d s ++ [readCycle .dataLo (eaBpIndZ d s)]
  | .bplWrel _ => fetchCycles 3 s
  | .trbBp d => fetchCycles 2 s ++ [readCycle .dataLo (eaBp d s)]
  | .oraBpX d => fetchCycles 2 s ++ [readCycle .dataLo (eaBpX d s)]
  | .aslBpX d => fetchCycles 2 s ++ [readCycle .dataLo (eaBpX d s)]
  | .rmb1 d => fetchCycles 2 s ++ [readCycle .dataLo (eaBp d s)]
  | .clc => fetchCycles 1 s
  | .oraAbsY w => fetchCycles 3 s ++ [readCycle .dataLo (eaAbsY w s)]
  | .incA => fetchCycles 1 s
  | .inz => fetchCycles 1 s
  | .trbAbs w => fetchCycles 3 s ++ [readCycle .dataLo (eaAbs w s)]
  | .oraAbsX w => fetchCycles 3 s ++ [readCycle .dataLo (eaAbsX w s)]
  | .aslAbsX w => fetchCycles 3 s ++ [readCycle .dataLo (eaAbsX w s)]
  | .bbr1 d _ => fetchCycles 3 s ++ [readCycle .dataLo (eaBp d s)]
  | .jsrAbs _ => fetchCycles 3 s
  | .andBpXInd d => fetchCycles 2 s ++ bpXIndCycles d s ++ [readCycle .dataLo (eaBpXInd d s)]
  | .jsrAbsInd w => fetchCycles 3 s ++ pointerCycles w (w + 1)
  | .jsrAbsXInd w => fetchCycles 3 s ++ pointerCycles (w + zext16 s.x) (w + zext16 s.x + 1)
  | .bitBp d => fetchCycles 2 s ++ [readCycle .dataLo (eaBp d s)]
  | .andBp d => fetchCycles 2 s ++ [readCycle .dataLo (eaBp d s)]
  | .rolBp d => fetchCycles 2 s ++ [readCycle .dataLo (eaBp d s)]
  | .rmb2 d => fetchCycles 2 s ++ [readCycle .dataLo (eaBp d s)]
  | .plp => fetchCycles 1 s ++ [pullCycle .pull1 1 s]
  | .andImm _ => fetchCycles 2 s
  | .rolA => fetchCycles 1 s
  | .tys => fetchCycles 1 s
  | .bitAbs w => fetchCycles 3 s ++ [readCycle .dataLo (eaAbs w s)]
  | .andAbs w => fetchCycles 3 s ++ [readCycle .dataLo (eaAbs w s)]
  | .rolAbs w => fetchCycles 3 s ++ [readCycle .dataLo (eaAbs w s)]
  | .bbr2 d _ => fetchCycles 3 s ++ [readCycle .dataLo (eaBp d s)]
  | .bmiRel _ => fetchCycles 2 s
  | .andBpIndY d => fetchCycles 2 s ++ bpIndCycles d s ++ [readCycle .dataLo (eaBpIndY d s)]
  | .andBpIndZ d => fetchCycles 2 s ++ bpIndCycles d s ++ [readCycle .dataLo (eaBpIndZ d s)]
  | .bmiWrel _ => fetchCycles 3 s
  | .bitBpX d => fetchCycles 2 s ++ [readCycle .dataLo (eaBpX d s)]
  | .andBpX d => fetchCycles 2 s ++ [readCycle .dataLo (eaBpX d s)]
  | .rolBpX d => fetchCycles 2 s ++ [readCycle .dataLo (eaBpX d s)]
  | .rmb3 d => fetchCycles 2 s ++ [readCycle .dataLo (eaBp d s)]
  | .sec => fetchCycles 1 s
  | .andAbsY w => fetchCycles 3 s ++ [readCycle .dataLo (eaAbsY w s)]
  | .decA => fetchCycles 1 s
  | .dez => fetchCycles 1 s
  | .bitAbsX w => fetchCycles 3 s ++ [readCycle .dataLo (eaAbsX w s)]
  | .andAbsX w => fetchCycles 3 s ++ [readCycle .dataLo (eaAbsX w s)]
  | .rolAbsX w => fetchCycles 3 s ++ [readCycle .dataLo (eaAbsX w s)]
  | .bbr3 d _ => fetchCycles 3 s ++ [readCycle .dataLo (eaBp d s)]
  | .rti => fetchCycles 1 s ++ rtiCycles s
  | .eorBpXInd d => fetchCycles 2 s ++ bpXIndCycles d s ++ [readCycle .dataLo (eaBpXInd d s)]
  | .neg => fetchCycles 1 s
  | .asrA => fetchCycles 1 s
  | .asrBp d => fetchCycles 2 s ++ [readCycle .dataLo (eaBp d s)]
  | .eorBp d => fetchCycles 2 s ++ [readCycle .dataLo (eaBp d s)]
  | .lsrBp d => fetchCycles 2 s ++ [readCycle .dataLo (eaBp d s)]
  | .rmb4 d => fetchCycles 2 s ++ [readCycle .dataLo (eaBp d s)]
  | .pha => fetchCycles 1 s
  | .eorImm _ => fetchCycles 2 s
  | .lsrA => fetchCycles 1 s
  | .taz => fetchCycles 1 s
  | .jmpAbs _ => fetchCycles 3 s
  | .eorAbs w => fetchCycles 3 s ++ [readCycle .dataLo (eaAbs w s)]
  | .lsrAbs w => fetchCycles 3 s ++ [readCycle .dataLo (eaAbs w s)]
  | .bbr4 d _ => fetchCycles 3 s ++ [readCycle .dataLo (eaBp d s)]
  | .bvcRel _ => fetchCycles 2 s
  | .eorBpIndY d => fetchCycles 2 s ++ bpIndCycles d s ++ [readCycle .dataLo (eaBpIndY d s)]
  | .eorBpIndZ d => fetchCycles 2 s ++ bpIndCycles d s ++ [readCycle .dataLo (eaBpIndZ d s)]
  | .bvcWrel _ => fetchCycles 3 s
  | .asrBpX d => fetchCycles 2 s ++ [readCycle .dataLo (eaBpX d s)]
  | .eorBpX d => fetchCycles 2 s ++ [readCycle .dataLo (eaBpX d s)]
  | .lsrBpX d => fetchCycles 2 s ++ [readCycle .dataLo (eaBpX d s)]
  | .rmb5 d => fetchCycles 2 s ++ [readCycle .dataLo (eaBp d s)]
  | .cli => fetchCycles 1 s
  | .eorAbsY w => fetchCycles 3 s ++ [readCycle .dataLo (eaAbsY w s)]
  | .phy => fetchCycles 1 s
  | .tab => fetchCycles 1 s
  | .aug _ _ _ => fetchCycles 4 s
  | .eorAbsX w => fetchCycles 3 s ++ [readCycle .dataLo (eaAbsX w s)]
  | .lsrAbsX w => fetchCycles 3 s ++ [readCycle .dataLo (eaAbsX w s)]
  | .bbr5 d _ => fetchCycles 3 s ++ [readCycle .dataLo (eaBp d s)]
  | .rts => fetchCycles 1 s ++ returnCycles s
  | .adcBpXInd d => fetchCycles 2 s ++ bpXIndCycles d s ++ [readCycle .dataLo (eaBpXInd d s)]
  | .rtn n => fetchCycles 2 s ++ rtnCycles n s
  | .bsr _ => fetchCycles 3 s
  | .stzBp _ => fetchCycles 2 s
  | .adcBp d => fetchCycles 2 s ++ [readCycle .dataLo (eaBp d s)]
  | .rorBp d => fetchCycles 2 s ++ [readCycle .dataLo (eaBp d s)]
  | .rmb6 d => fetchCycles 2 s ++ [readCycle .dataLo (eaBp d s)]
  | .pla => fetchCycles 1 s ++ [pullCycle .pull1 1 s]
  | .adcImm _ => fetchCycles 2 s
  | .rorA => fetchCycles 1 s
  | .tza => fetchCycles 1 s
  | .jmpAbsInd w => fetchCycles 3 s ++ pointerCycles w (w + 1)
  | .adcAbs w => fetchCycles 3 s ++ [readCycle .dataLo (eaAbs w s)]
  | .rorAbs w => fetchCycles 3 s ++ [readCycle .dataLo (eaAbs w s)]
  | .bbr6 d _ => fetchCycles 3 s ++ [readCycle .dataLo (eaBp d s)]
  | .bvsRel _ => fetchCycles 2 s
  | .adcBpIndY d => fetchCycles 2 s ++ bpIndCycles d s ++ [readCycle .dataLo (eaBpIndY d s)]
  | .adcBpIndZ d => fetchCycles 2 s ++ bpIndCycles d s ++ [readCycle .dataLo (eaBpIndZ d s)]
  | .bvsWrel _ => fetchCycles 3 s
  | .stzBpX _ => fetchCycles 2 s
  | .adcBpX d => fetchCycles 2 s ++ [readCycle .dataLo (eaBpX d s)]
  | .rorBpX d => fetchCycles 2 s ++ [readCycle .dataLo (eaBpX d s)]
  | .rmb7 d => fetchCycles 2 s ++ [readCycle .dataLo (eaBp d s)]
  | .sei => fetchCycles 1 s
  | .adcAbsY w => fetchCycles 3 s ++ [readCycle .dataLo (eaAbsY w s)]
  | .ply => fetchCycles 1 s ++ [pullCycle .pull1 1 s]
  | .tba => fetchCycles 1 s
  | .jmpAbsXInd w => fetchCycles 3 s ++ pointerCycles (w + zext16 s.x) (w + zext16 s.x + 1)
  | .adcAbsX w => fetchCycles 3 s ++ [readCycle .dataLo (eaAbsX w s)]
  | .rorAbsX w => fetchCycles 3 s ++ [readCycle .dataLo (eaAbsX w s)]
  | .bbr7 d _ => fetchCycles 3 s ++ [readCycle .dataLo (eaBp d s)]
  | .bruRel _ => fetchCycles 2 s
  | .staBpXInd d => fetchCycles 2 s ++ bpXIndCycles d s
  | .staSpIndY d => fetchCycles 2 s ++ spIndCycles d s
  | .bruWrel _ => fetchCycles 3 s
  | .styBp _ => fetchCycles 2 s
  | .staBp _ => fetchCycles 2 s
  | .stxBp _ => fetchCycles 2 s
  | .smb0 d => fetchCycles 2 s ++ [readCycle .dataLo (eaBp d s)]
  | .dey => fetchCycles 1 s
  | .bitImm _ => fetchCycles 2 s
  | .txa => fetchCycles 1 s
  | .styAbsX _ => fetchCycles 3 s
  | .styAbs _ => fetchCycles 3 s
  | .staAbs _ => fetchCycles 3 s
  | .stxAbs _ => fetchCycles 3 s
  | .bbs0 d _ => fetchCycles 3 s ++ [readCycle .dataLo (eaBp d s)]
  | .bccRel _ => fetchCycles 2 s
  | .staBpIndY d => fetchCycles 2 s ++ bpIndCycles d s
  | .staBpIndZ d => fetchCycles 2 s ++ bpIndCycles d s
  | .bccWrel _ => fetchCycles 3 s
  | .styBpX _ => fetchCycles 2 s
  | .staBpX _ => fetchCycles 2 s
  | .stxBpY _ => fetchCycles 2 s
  | .smb1 d => fetchCycles 2 s ++ [readCycle .dataLo (eaBp d s)]
  | .tya => fetchCycles 1 s
  | .staAbsY _ => fetchCycles 3 s
  | .txs => fetchCycles 1 s
  | .stxAbsY _ => fetchCycles 3 s
  | .stzAbs _ => fetchCycles 3 s
  | .staAbsX _ => fetchCycles 3 s
  | .stzAbsX _ => fetchCycles 3 s
  | .bbs1 d _ => fetchCycles 3 s ++ [readCycle .dataLo (eaBp d s)]
  | .ldyImm _ => fetchCycles 2 s
  | .ldaBpXInd d => fetchCycles 2 s ++ bpXIndCycles d s ++ [readCycle .dataLo (eaBpXInd d s)]
  | .ldxImm _ => fetchCycles 2 s
  | .ldzImm _ => fetchCycles 2 s
  | .ldyBp d => fetchCycles 2 s ++ [readCycle .dataLo (eaBp d s)]
  | .ldaBp d => fetchCycles 2 s ++ [readCycle .dataLo (eaBp d s)]
  | .ldxBp d => fetchCycles 2 s ++ [readCycle .dataLo (eaBp d s)]
  | .smb2 d => fetchCycles 2 s ++ [readCycle .dataLo (eaBp d s)]
  | .tay => fetchCycles 1 s
  | .ldaImm _ => fetchCycles 2 s
  | .tax => fetchCycles 1 s
  | .ldzAbs w => fetchCycles 3 s ++ [readCycle .dataLo (eaAbs w s)]
  | .ldyAbs w => fetchCycles 3 s ++ [readCycle .dataLo (eaAbs w s)]
  | .ldaAbs w => fetchCycles 3 s ++ [readCycle .dataLo (eaAbs w s)]
  | .ldxAbs w => fetchCycles 3 s ++ [readCycle .dataLo (eaAbs w s)]
  | .bbs2 d _ => fetchCycles 3 s ++ [readCycle .dataLo (eaBp d s)]
  | .bcsRel _ => fetchCycles 2 s
  | .ldaBpIndY d => fetchCycles 2 s ++ bpIndCycles d s ++ [readCycle .dataLo (eaBpIndY d s)]
  | .ldaBpIndZ d => fetchCycles 2 s ++ bpIndCycles d s ++ [readCycle .dataLo (eaBpIndZ d s)]
  | .bcsWrel _ => fetchCycles 3 s
  | .ldyBpX d => fetchCycles 2 s ++ [readCycle .dataLo (eaBpX d s)]
  | .ldaBpX d => fetchCycles 2 s ++ [readCycle .dataLo (eaBpX d s)]
  | .ldxBpY d => fetchCycles 2 s ++ [readCycle .dataLo (eaBpY d s)]
  | .smb3 d => fetchCycles 2 s ++ [readCycle .dataLo (eaBp d s)]
  | .clv => fetchCycles 1 s
  | .ldaAbsY w => fetchCycles 3 s ++ [readCycle .dataLo (eaAbsY w s)]
  | .tsx => fetchCycles 1 s
  | .ldzAbsX w => fetchCycles 3 s ++ [readCycle .dataLo (eaAbsX w s)]
  | .ldyAbsX w => fetchCycles 3 s ++ [readCycle .dataLo (eaAbsX w s)]
  | .ldaAbsX w => fetchCycles 3 s ++ [readCycle .dataLo (eaAbsX w s)]
  | .ldxAbsY w => fetchCycles 3 s ++ [readCycle .dataLo (eaAbsY w s)]
  | .bbs3 d _ => fetchCycles 3 s ++ [readCycle .dataLo (eaBp d s)]
  | .cpyImm _ => fetchCycles 2 s
  | .cmpBpXInd d => fetchCycles 2 s ++ bpXIndCycles d s ++ [readCycle .dataLo (eaBpXInd d s)]
  | .cpzImm _ => fetchCycles 2 s
  | .dew d => fetchCycles 2 s ++ wordReads (eaBp d s) (eaBpNext d s)
  | .cpyBp d => fetchCycles 2 s ++ [readCycle .dataLo (eaBp d s)]
  | .cmpBp d => fetchCycles 2 s ++ [readCycle .dataLo (eaBp d s)]
  | .decBp d => fetchCycles 2 s ++ [readCycle .dataLo (eaBp d s)]
  | .smb4 d => fetchCycles 2 s ++ [readCycle .dataLo (eaBp d s)]
  | .iny => fetchCycles 1 s
  | .cmpImm _ => fetchCycles 2 s
  | .dex => fetchCycles 1 s
  | .asw w => fetchCycles 3 s ++ wordReads w (w + 1)
  | .cpyAbs w => fetchCycles 3 s ++ [readCycle .dataLo (eaAbs w s)]
  | .cmpAbs w => fetchCycles 3 s ++ [readCycle .dataLo (eaAbs w s)]
  | .decAbs w => fetchCycles 3 s ++ [readCycle .dataLo (eaAbs w s)]
  | .bbs4 d _ => fetchCycles 3 s ++ [readCycle .dataLo (eaBp d s)]
  | .bneRel _ => fetchCycles 2 s
  | .cmpBpIndY d => fetchCycles 2 s ++ bpIndCycles d s ++ [readCycle .dataLo (eaBpIndY d s)]
  | .cmpBpIndZ d => fetchCycles 2 s ++ bpIndCycles d s ++ [readCycle .dataLo (eaBpIndZ d s)]
  | .bneWrel _ => fetchCycles 3 s
  | .cpzBp d => fetchCycles 2 s ++ [readCycle .dataLo (eaBp d s)]
  | .cmpBpX d => fetchCycles 2 s ++ [readCycle .dataLo (eaBpX d s)]
  | .decBpX d => fetchCycles 2 s ++ [readCycle .dataLo (eaBpX d s)]
  | .smb5 d => fetchCycles 2 s ++ [readCycle .dataLo (eaBp d s)]
  | .cld => fetchCycles 1 s
  | .cmpAbsY w => fetchCycles 3 s ++ [readCycle .dataLo (eaAbsY w s)]
  | .phx => fetchCycles 1 s
  | .phz => fetchCycles 1 s
  | .cpzAbs w => fetchCycles 3 s ++ [readCycle .dataLo (eaAbs w s)]
  | .cmpAbsX w => fetchCycles 3 s ++ [readCycle .dataLo (eaAbsX w s)]
  | .decAbsX w => fetchCycles 3 s ++ [readCycle .dataLo (eaAbsX w s)]
  | .bbs5 d _ => fetchCycles 3 s ++ [readCycle .dataLo (eaBp d s)]
  | .cpxImm _ => fetchCycles 2 s
  | .sbcBpXInd d => fetchCycles 2 s ++ bpXIndCycles d s ++ [readCycle .dataLo (eaBpXInd d s)]
  | .ldaSpIndY d => fetchCycles 2 s ++ spIndCycles d s ++ [readCycle .dataLo (eaSpIndY d s)]
  | .inw d => fetchCycles 2 s ++ wordReads (eaBp d s) (eaBpNext d s)
  | .cpxBp d => fetchCycles 2 s ++ [readCycle .dataLo (eaBp d s)]
  | .sbcBp d => fetchCycles 2 s ++ [readCycle .dataLo (eaBp d s)]
  | .incBp d => fetchCycles 2 s ++ [readCycle .dataLo (eaBp d s)]
  | .smb6 d => fetchCycles 2 s ++ [readCycle .dataLo (eaBp d s)]
  | .inx => fetchCycles 1 s
  | .sbcImm _ => fetchCycles 2 s
  | .nop => fetchCycles 1 s
  | .row w => fetchCycles 3 s ++ wordReads w (w + 1)
  | .cpxAbs w => fetchCycles 3 s ++ [readCycle .dataLo (eaAbs w s)]
  | .sbcAbs w => fetchCycles 3 s ++ [readCycle .dataLo (eaAbs w s)]
  | .incAbs w => fetchCycles 3 s ++ [readCycle .dataLo (eaAbs w s)]
  | .bbs6 d _ => fetchCycles 3 s ++ [readCycle .dataLo (eaBp d s)]
  | .beqRel _ => fetchCycles 2 s
  | .sbcBpIndY d => fetchCycles 2 s ++ bpIndCycles d s ++ [readCycle .dataLo (eaBpIndY d s)]
  | .sbcBpIndZ d => fetchCycles 2 s ++ bpIndCycles d s ++ [readCycle .dataLo (eaBpIndZ d s)]
  | .beqWrel _ => fetchCycles 3 s
  | .phwImmW _ => fetchCycles 3 s
  | .sbcBpX d => fetchCycles 2 s ++ [readCycle .dataLo (eaBpX d s)]
  | .incBpX d => fetchCycles 2 s ++ [readCycle .dataLo (eaBpX d s)]
  | .smb7 d => fetchCycles 2 s ++ [readCycle .dataLo (eaBp d s)]
  | .sed => fetchCycles 1 s
  | .sbcAbsY w => fetchCycles 3 s ++ [readCycle .dataLo (eaAbsY w s)]
  | .plx => fetchCycles 1 s ++ [pullCycle .pull1 1 s]
  | .plz => fetchCycles 1 s ++ [pullCycle .pull1 1 s]
  | .phwAbs w => fetchCycles 3 s ++ [readCycle .sourceLo w, readCycle .sourceHi (w + 1)]
  | .sbcAbsX w => fetchCycles 3 s ++ [readCycle .dataLo (eaAbsX w s)]
  | .incAbsX w => fetchCycles 3 s ++ [readCycle .dataLo (eaAbsX w s)]
  | .bbs7 d _ => fetchCycles 3 s ++ [readCycle .dataLo (eaBp d s)]

/-- Puts a cycle at its place in the order of R67. -/
def insertCycle (c : BusCycle) : List BusCycle → List BusCycle
  | [] => [c]
  | x :: xs => if slotRank c.slot < slotRank x.slot then c :: x :: xs else x :: insertCycle c xs

/-- Reads and writes in one order, R67. -/
def mergeCycles (reads : List BusCycle) : List BusCycle → List BusCycle
  | [] => reads
  | w :: ws => mergeCycles (insertCycle w reads) ws

/-- The cycles with, before each, one held cycle for every time RDY is low there, R42. -/
def withStalls (stalls : List BusSlot) : List BusCycle → List BusCycle
  | [] => []
  | c :: cs =>
    List.replicate (stalls.count c.slot) (heldCycle c) ++ c :: withStalls stalls cs

/-- Records the cycles of what a step has done: its reads, and the writes recorded so far. -/
def State.recordBus (s : State) (reads : List BusCycle) : State :=
  s.setBus (withStalls s.stalls (mergeCycles reads s.bus))

end Sys2Proof.Machine
end

