-- ==== Sys2Proof/Machine/Boundary.lean ====
section
/-! DEFINITION. What happens at an instruction boundary (spec/60_exceptions.md R342 to R348,
spec/10_state.md R39 to R42, spec/70_reset_and_hazards.md R380 to R383): the environment's inputs, the
recognition of interrupts, the interrupt sequences, the reset sequence, an abandoned instruction. -/

namespace Sys2Proof.Machine

/-! ## Inputs -/

/-- The phi2 sample of SO, R40: a sampled 1 followed by a sampled 0 sets V. Whether it does while RDY
is low is free: R42 says no state changes then, R346 that the transition sets V (log 14). -/
def State.sampleSo (s : State) : State :=
  (s.setPins { s.pins with soSampled := s.pins.so }).setP
    { s.p with v := s.p.v ||
        (s.pins.soSampled && !s.pins.so && (s.pins.rdy || Config.haltedSo s.tick)) }

/-- The NMI latch after the NMI pin has gone to a level, R39, R345: a fall sets it; in standby (clock
stopped) whether it does is free (R364). -/
def State.nmiLatchAfter (s : State) (high : Bool) : Bool :=
  s.nmiLatch || (s.pins.nmi && !high && (s.pins.clock || Config.standbyNmi s.tick))

/-- RDY is low before one cycle of what begins here, and other masters write meanwhile, R66, R73. -/
def State.stall (s : State) (before : BusSlot) (writes : List (Word × Byte)) : State :=
  (s.setStalls (s.stalls ++ [before])).setDma
    (writes.foldl (fun d w => insertDma ⟨before, w.1, w.2⟩ d) s.dma)

/-- One act of the environment; each has free values of its own. -/
def State.applyInput (s : State) (input : Input) : State :=
  let t := s.setTick (s.tick + 1)
  match input with
  | .irq high => t.setPins { t.pins with irq := high }
  | .nmi high => (t.setNmiLatch (t.nmiLatchAfter high)).setPins { t.pins with nmi := high }
  | .so high =>
    if t.pins.clock then (t.setPins { t.pins with so := high }).sampleSo
    else t.setPins { t.pins with so := high }
  | .rdy high => t.setPins { t.pins with rdy := high }
  | .res high =>
    (t.setResetDue (t.resetDue || (!t.pins.res && high))).setPins { t.pins with res := high }
  | .resCut => t.setResCut true
  | .clock running =>
    if running then (t.setPins { t.pins with clock := true }).sampleSo
    else t.setPins { t.pins with clock := false }
  | .dma address value => if t.pins.rdy then t else t.poke address value
  | .halt before writes => t.stall before writes

/-- A step begins: its batch is off the schedule, it has made no bus cycle and no master has acted in it. -/
def State.beginStep (s : State) : State :=
  (((s.setInputs s.inputs.tail).setBus []).setDma []).setStalls []

/-- The state at a boundary after the environment's batch for it, with a fresh counter (R343: "a model
lets the environment present the IRQ level and NMI edges at boundaries of its choosing"). -/
def State.boundary (s : State) : State :=
  let t := (s.inputs.headD []).foldl State.applyInput s.beginStep
  t.setTick (t.tick + 1)

/-! ## Recognition -/

/-- An interrupt that is taken at a boundary. -/
inductive Interrupt where
  | nmi
  | irq
deriving DecidableEq, Repr

/-- R343, R348: nothing is recognised after a single-cycle opcode; NMI goes before IRQ; IRQ is a level,
masked by I. -/
def State.pendingInterrupt (s : State) : Option Interrupt :=
  if s.lastSingle then none
  else if s.nmiLatch then some .nmi
  else if !s.pins.irq && !s.p.i then some .irq
  else none

/-- R42: the processor is halted: clock stopped, RES low or RDY low. -/
def State.halted (s : State) : Bool := !s.pins.clock || !s.pins.res || !s.pins.rdy

/-- What the bus shows while the processor is halted at a boundary, R42: with RDY low it stands on the
opcode fetch at pc with the address held; with the clock stopped or RES low there is no bus cycle, and
which address stands there before the reset sequence is in no source (U8, log 28). -/
def State.heldBus (s : State) : List BusCycle :=
  if s.pins.clock && s.pins.res && !s.resetDue then [heldCycle (readCycle .opcode s.pc)] else []

/-! ## Interrupt and reset sequences -/

/-- The NMI sequence, R343, R345, R352: the latch is cleared; it counts as multiple-cycle. -/
def State.takeNmi (s : State) : State :=
  (((s.setNmiLatch false).trapEntry nmiVector s.pc false).setLastSingle false).recordBus
    (vectorCycles nmiVector)

/-- The IRQ sequence, R342, R343, R352. -/
def State.takeIrq (s : State) : State :=
  ((s.trapEntry irqVector s.pc false).setLastSingle false).recordBus (vectorCycles irqVector)

/-- The flags after the reset sequence, R44, R380: E and I set, the others free. -/
def resetFlags (tick : Nat) : Flags where
  n := Config.resetN tick
  v := Config.resetV tick
  e := true
  d := Config.resetD tick
  i := true
  zf := Config.resetZ tick
  c := Config.resetC tick

/-- `Reset()`, R380: byte mode, stack page 01, B and Z cleared, I set, pc from the reset vector; what
the spec does not list is free (R44); memory is not written (R382). -/
def State.resetSequence (s : State) : State where
  a := Config.resetA s.tick
  x := Config.resetX s.tick
  y := Config.resetY s.tick
  z := 0x00
  b := 0x00
  sp := wordOf 0x01 (Config.resetSpl s.tick)
  pc := s.vectorAt resetVector
  p := resetFlags s.tick
  mem := s.mem
  cfg := s.cfg
  lastSingle := false
  nmiLatch := Config.resetNmi s.tick
  resetDue := false
  resCut := s.resCut
  pins := s.pins
  inputs := s.inputs
  bus := withStalls s.stalls (vectorCycles resetVector)
  dma := s.dma
  stalls := s.stalls
  tick := s.tick

/-! ## RES during an instruction, R383, D30 -/

/-- The memory left by an abandoned instruction that would have turned `before` into `after`: each byte
is old or new, freely. -/
def abandonedMem (tick : Nat) (before after : Memory) : Memory :=
  (before ++ after).foldl
    (fun m c => if Config.keepsOldByte tick c.1 then Memory.write m c.1 (Memory.read before c.1) else m)
    after

/-- What began in `s` and would have ended in `t` is abandoned: RES is low, memory is as above (both with
what other masters wrote meanwhile). The
registers are those of `s`; they cannot be seen before the reset sequence overwrites them all. -/
def State.abandon (s t : State) : State :=
  (((s.setMem (abandonedMem s.tick s.mem t.mem)).setResCut false).setPins
    { s.pins with res := false }).setBus t.bus

end Sys2Proof.Machine
end

