-- ==== Sys2Proof/Machine/Flags.lean ====
section
/-! DEFINITION. The flag and result computations of spec/42_arithmetic.md: binary and decimal addition
and subtraction (R191 to R195), compare (R200), the shifts and rotates (R215 to R221). -/

namespace Sys2Proof.Machine

/-! ## Addition and subtraction -/

/-- A result byte and the flags after it. -/
structure AluOut where
  result : Byte
  flags  : Flags
deriving DecidableEq, Repr

/-- `AddBin(a, m, c)`, R191, with C, V and `SetNZ` written. -/
def addBinary (p : Flags) (a m : Byte) : AluOut :=
  let s := a.toNat + m.toNat + p.c.toNat
  let r := BitVec.ofNat 8 s
  { result := r
    flags := { p.nz r with c := decide (256 ≤ s), v := (a.msb == m.msb) && (r.msb != a.msb) } }

/-- `valid(x)`, R192: both digits are at most 9. -/
def bcdValid (x : Byte) : Bool := decide (x.toNat % 16 ≤ 9) && decide (x.toNat / 16 ≤ 9)

/-- `dec(x)`, R192. -/
def bcdValue (x : Byte) : Nat := 10 * (x.toNat / 16) + x.toNat % 16

/-- `bcd(n)` for n at most 99, R192. -/
def bcdEncode (n : Nat) : Byte := BitVec.ofNat 8 (n / 10 * 16 + n % 10)

/-- `DECIMAL_INVALID`, D14: A, N, V, Zf and C are free. -/
def invalidBcd (tick : Nat) (sub : Bool) (p : Flags) (a m : Byte) : AluOut where
  result := Config.invalidBcdA tick sub a m p.c
  flags := { p with
    n := Config.invalidBcdN tick sub a m p.c
    v := Config.invalidBcdV tick sub a m p.c
    zf := Config.invalidBcdZ tick sub a m p.c
    c := Config.invalidBcdC tick sub a m p.c }

/-- Decimal addition, R192; V is free (`DECIMAL_V`). -/
def addDecimal (tick : Nat) (p : Flags) (a m : Byte) : AluOut :=
  if bcdValid a && bcdValid m then
    let s := bcdValue a + bcdValue m + p.c.toNat
    let r := bcdEncode (s % 100)
    { result := r
      flags := { p.nz r with c := decide (100 ≤ s), v := Config.decimalV tick false a m p.c } }
  else invalidBcd tick false p a m

/-- Decimal subtraction, R193; V is free (`DECIMAL_V`). -/
def subDecimal (tick : Nat) (p : Flags) (a m : Byte) : AluOut :=
  if bcdValid a && bcdValid m then
    let d : Int := (bcdValue a : Int) - bcdValue m - (1 - p.c.toNat)
    let r := bcdEncode (d % 100).toNat
    { result := r
      flags := { p.nz r with c := decide (0 ≤ d), v := Config.decimalV tick true a m p.c } }
  else invalidBcd tick true p a m

/-- R194: binary or decimal addition as D says. -/
def adcSum (tick : Nat) (p : Flags) (a m : Byte) : AluOut :=
  if p.d then addDecimal tick p a m else addBinary p a m

/-- R195: binary subtraction is addition of the complement; decimal as D says. -/
def sbcSum (tick : Nat) (p : Flags) (a m : Byte) : AluOut :=
  if p.d then subDecimal tick p a m else addBinary p a (m ^^^ 0xFF)

/-! ## Compare -/

/-- `Compare(r, M)`, R200: C is "r is at least M", unsigned; N and Zf of the difference. -/
def Flags.compare (p : Flags) (r m : Byte) : Flags :=
  { p.nz (r - m) with c := decide (m.toNat ≤ r.toNat) }

/-! ## Shifts and rotates: the result and the bit that goes to C -/

/-- R215: a 0 enters bit 0, bit 7 goes to C. -/
def aslOp (_ : Bool) (m : Byte) : Byte × Bool := (m <<< 1, m.getLsbD 7)

/-- R216: a 0 enters bit 7, bit 0 goes to C. -/
def lsrOp (_ : Bool) (m : Byte) : Byte × Bool := (m >>> 1, m.getLsbD 0)

/-- R217: bit 7 is copied into itself, bit 0 goes to C. -/
def asrOp (_ : Bool) (m : Byte) : Byte × Bool := ((m >>> 1) ||| (m &&& 0x80), m.getLsbD 0)

/-- R218: C enters bit 0, bit 7 goes to C. -/
def rolOp (c : Bool) (m : Byte) : Byte × Bool :=
  ((m <<< 1) ||| (BitVec.ofBool c).setWidth 8, m.getLsbD 7)

/-- R219: C enters bit 7, bit 0 goes to C. -/
def rorOp (c : Bool) (m : Byte) : Byte × Bool :=
  ((m >>> 1) ||| ((BitVec.ofBool c).setWidth 8 <<< 7), m.getLsbD 0)

/-- R220: the 16-bit shift, bit 15 goes to C. -/
def aswOp (_ : Bool) (w : Word) : Word × Bool := (w <<< 1, w.getLsbD 15)

/-- R221: the 16-bit rotate, C enters bit 0, bit 15 goes to C. -/
def rowOp (c : Bool) (w : Word) : Word × Bool :=
  ((w <<< 1) ||| (BitVec.ofBool c).setWidth 16, w.getLsbD 15)

/-- The flags after a shift of a byte: `SetNZ` of the result and C. -/
def Flags.shifted (p : Flags) (rc : Byte × Bool) : Flags := { p.nz rc.1 with c := rc.2 }

/-- The flags after a shift of a word: `SetNZ16` of the result and C. -/
def Flags.shifted16 (p : Flags) (rc : Word × Bool) : Flags := { p.nz16 rc.1 with c := rc.2 }

end Sys2Proof.Machine
end

