-- ==== Sys2Proof/Machine/Arith.lean ====
section
/-! DEFINITION. Addition, subtraction and the compares (spec/42_arithmetic.md R191 to R195, R200 to R203). -/

namespace Sys2Proof.Machine

/-- ADC of an operand byte, R194. -/
def State.adc (s : State) (m : Byte) : State :=
  (s.setA (adcSum s.tick s.p s.a m).result).setP (adcSum s.tick s.p s.a m).flags

/-- SBC of an operand byte, R195. -/
def State.sbc (s : State) (m : Byte) : State :=
  (s.setA (sbcSum s.tick s.p s.a m).result).setP (sbcSum s.tick s.p s.a m).flags

/-- 61 ADC (BP,X), R194. -/
def execAdcBpXInd (d : Byte) (s : State) : Result :=
  retire s 2 (s.adc (s.dataAt (eaBpXInd d s)))

/-- 65 ADC BP, R194. -/
def execAdcBp (d : Byte) (s : State) : Result :=
  retire s 2 (s.adc (s.dataAt (eaBp d s)))

/-- 69 ADC IMM, R194. -/
def execAdcImm (m : Byte) (s : State) : Result :=
  retire s 2 (s.adc m)

/-- 6D ADC ABS, R194. -/
def execAdcAbs (w : Word) (s : State) : Result :=
  retire s 3 (s.adc (s.dataAt (eaAbs w s)))

/-- 71 ADC (BP),Y, R194. -/
def execAdcBpIndY (d : Byte) (s : State) : Result :=
  retire s 2 (s.adc (s.dataAt (eaBpIndY d s)))

/-- 72 ADC (BP),Z, R194. -/
def execAdcBpIndZ (d : Byte) (s : State) : Result :=
  retire s 2 (s.adc (s.dataAt (eaBpIndZ d s)))

/-- 75 ADC BP,X, R194. -/
def execAdcBpX (d : Byte) (s : State) : Result :=
  retire s 2 (s.adc (s.dataAt (eaBpX d s)))

/-- 79 ADC ABS,Y, R194. -/
def execAdcAbsY (w : Word) (s : State) : Result :=
  retire s 3 (s.adc (s.dataAt (eaAbsY w s)))

/-- 7D ADC ABS,X, R194. -/
def execAdcAbsX (w : Word) (s : State) : Result :=
  retire s 3 (s.adc (s.dataAt (eaAbsX w s)))

/-- C0 CPY IMM, R202. -/
def execCpyImm (m : Byte) (s : State) : Result :=
  retire s 2 (s.setP (s.p.compare s.y m))

/-- C4 CPY BP, R202. -/
def execCpyBp (d : Byte) (s : State) : Result :=
  retire s 2 (s.setP (s.p.compare s.y (s.dataAt (eaBp d s))))

/-- CC CPY ABS, R202. -/
def execCpyAbs (w : Word) (s : State) : Result :=
  retire s 3 (s.setP (s.p.compare s.y (s.dataAt (eaAbs w s))))

/-- C1 CMP (BP,X), R200. -/
def execCmpBpXInd (d : Byte) (s : State) : Result :=
  retire s 2 (s.setP (s.p.compare s.a (s.dataAt (eaBpXInd d s))))

/-- C5 CMP BP, R200. -/
def execCmpBp (d : Byte) (s : State) : Result :=
  retire s 2 (s.setP (s.p.compare s.a (s.dataAt (eaBp d s))))

/-- C9 CMP IMM, R200. -/
def execCmpImm (m : Byte) (s : State) : Result :=
  retire s 2 (s.setP (s.p.compare s.a m))

/-- CD CMP ABS, R200. -/
def execCmpAbs (w : Word) (s : State) : Result :=
  retire s 3 (s.setP (s.p.compare s.a (s.dataAt (eaAbs w s))))

/-- D1 CMP (BP),Y, R200. -/
def execCmpBpIndY (d : Byte) (s : State) : Result :=
  retire s 2 (s.setP (s.p.compare s.a (s.dataAt (eaBpIndY d s))))

/-- D2 CMP (BP),Z, R200. -/
def execCmpBpIndZ (d : Byte) (s : State) : Result :=
  retire s 2 (s.setP (s.p.compare s.a (s.dataAt (eaBpIndZ d s))))

/-- D5 CMP BP,X, R200. -/
def execCmpBpX (d : Byte) (s : State) : Result :=
  retire s 2 (s.setP (s.p.compare s.a (s.dataAt (eaBpX d s))))

/-- D9 CMP ABS,Y, R200. -/
def execCmpAbsY (w : Word) (s : State) : Result :=
  retire s 3 (s.setP (s.p.compare s.a (s.dataAt (eaAbsY w s))))

/-- DD CMP ABS,X, R200. -/
def execCmpAbsX (w : Word) (s : State) : Result :=
  retire s 3 (s.setP (s.p.compare s.a (s.dataAt (eaAbsX w s))))

/-- C2 CPZ IMM, R203. -/
def execCpzImm (m : Byte) (s : State) : Result :=
  retire s 2 (s.setP (s.p.compare s.z m))

/-- D4 CPZ BP, R203. -/
def execCpzBp (d : Byte) (s : State) : Result :=
  retire s 2 (s.setP (s.p.compare s.z (s.dataAt (eaBp d s))))

/-- DC CPZ ABS, R203. -/
def execCpzAbs (w : Word) (s : State) : Result :=
  retire s 3 (s.setP (s.p.compare s.z (s.dataAt (eaAbs w s))))

/-- E0 CPX IMM, R201. -/
def execCpxImm (m : Byte) (s : State) : Result :=
  retire s 2 (s.setP (s.p.compare s.x m))

/-- E4 CPX BP, R201. -/
def execCpxBp (d : Byte) (s : State) : Result :=
  retire s 2 (s.setP (s.p.compare s.x (s.dataAt (eaBp d s))))

/-- EC CPX ABS, R201. -/
def execCpxAbs (w : Word) (s : State) : Result :=
  retire s 3 (s.setP (s.p.compare s.x (s.dataAt (eaAbs w s))))

/-- E1 SBC (BP,X), R195. -/
def execSbcBpXInd (d : Byte) (s : State) : Result :=
  retire s 2 (s.sbc (s.dataAt (eaBpXInd d s)))

/-- E5 SBC BP, R195. -/
def execSbcBp (d : Byte) (s : State) : Result :=
  retire s 2 (s.sbc (s.dataAt (eaBp d s)))

/-- E9 SBC IMM, R195. -/
def execSbcImm (m : Byte) (s : State) : Result :=
  retire s 2 (s.sbc m)

/-- ED SBC ABS, R195. -/
def execSbcAbs (w : Word) (s : State) : Result :=
  retire s 3 (s.sbc (s.dataAt (eaAbs w s)))

/-- F1 SBC (BP),Y, R195. -/
def execSbcBpIndY (d : Byte) (s : State) : Result :=
  retire s 2 (s.sbc (s.dataAt (eaBpIndY d s)))

/-- F2 SBC (BP),Z, R195. -/
def execSbcBpIndZ (d : Byte) (s : State) : Result :=
  retire s 2 (s.sbc (s.dataAt (eaBpIndZ d s)))

/-- F5 SBC BP,X, R195. -/
def execSbcBpX (d : Byte) (s : State) : Result :=
  retire s 2 (s.sbc (s.dataAt (eaBpX d s)))

/-- F9 SBC ABS,Y, R195. -/
def execSbcAbsY (w : Word) (s : State) : Result :=
  retire s 3 (s.sbc (s.dataAt (eaAbsY w s)))

/-- FD SBC ABS,X, R195. -/
def execSbcAbsX (w : Word) (s : State) : Result :=
  retire s 3 (s.sbc (s.dataAt (eaAbsX w s)))

end Sys2Proof.Machine
end

