-- ==== Sys2Proof/Machine/Bits.lean ====
section
/-! DEFINITION. Bit set, reset and test in memory (R222 to R225). -/

namespace Sys2Proof.Machine

/-- The flags of TSB and TRB: Zf from A and the byte before the write, R222, R223. -/
def State.testFlags (s : State) (ea : Word) : Flags :=
  { s.p with zf := (s.a &&& s.dataAt ea) == 0 }

/-- TSB, R222. -/
def State.testSet (s : State) (ea : Word) : State :=
  (s.writeData ea (s.a ||| s.dataAt ea)).setP (s.testFlags ea)

/-- TRB, R223. -/
def State.testReset (s : State) (ea : Word) : State :=
  (s.writeData ea ((s.a ^^^ 0xFF) &&& s.dataAt ea)).setP (s.testFlags ea)

/-- The byte with only bit `n` set. -/
def bitMask (n : Nat) : Byte := (1 : Byte) <<< n

/-- RMBn, R224. -/
def State.resetBit (s : State) (n : Nat) (ea : Word) : State :=
  s.writeData ea (s.dataAt ea &&& ~~~ bitMask n)

/-- SMBn, R225. -/
def State.setBit (s : State) (n : Nat) (ea : Word) : State :=
  s.writeData ea (s.dataAt ea ||| bitMask n)

/-- 04 TSB BP, R222. -/
def execTsbBp (d : Byte) (s : State) : Result :=
  retire s 2 (s.testSet (eaBp d s))

/-- 0C TSB ABS, R222. -/
def execTsbAbs (w : Word) (s : State) : Result :=
  retire s 3 (s.testSet (eaAbs w s))

/-- 07 RMB0 BP, R224. -/
def execRmb0 (d : Byte) (s : State) : Result :=
  retire s 2 (s.resetBit 0 (eaBp d s))

/-- 14 TRB BP, R223. -/
def execTrbBp (d : Byte) (s : State) : Result :=
  retire s 2 (s.testReset (eaBp d s))

/-- 1C TRB ABS, R223. -/
def execTrbAbs (w : Word) (s : State) : Result :=
  retire s 3 (s.testReset (eaAbs w s))

/-- 17 RMB1 BP, R224. -/
def execRmb1 (d : Byte) (s : State) : Result :=
  retire s 2 (s.resetBit 1 (eaBp d s))

/-- 27 RMB2 BP, R224. -/
def execRmb2 (d : Byte) (s : State) : Result :=
  retire s 2 (s.resetBit 2 (eaBp d s))

/-- 37 RMB3 BP, R224. -/
def execRmb3 (d : Byte) (s : State) : Result :=
  retire s 2 (s.resetBit 3 (eaBp d s))

/-- 47 RMB4 BP, R224. -/
def execRmb4 (d : Byte) (s : State) : Result :=
  retire s 2 (s.resetBit 4 (eaBp d s))

/-- 57 RMB5 BP, R224. -/
def execRmb5 (d : Byte) (s : State) : Result :=
  retire s 2 (s.resetBit 5 (eaBp d s))

/-- 67 RMB6 BP, R224. -/
def execRmb6 (d : Byte) (s : State) : Result :=
  retire s 2 (s.resetBit 6 (eaBp d s))

/-- 77 RMB7 BP, R224. -/
def execRmb7 (d : Byte) (s : State) : Result :=
  retire s 2 (s.resetBit 7 (eaBp d s))

/-- 87 SMB0 BP, R225. -/
def execSmb0 (d : Byte) (s : State) : Result :=
  retire s 2 (s.setBit 0 (eaBp d s))

/-- 97 SMB1 BP, R225. -/
def execSmb1 (d : Byte) (s : State) : Result :=
  retire s 2 (s.setBit 1 (eaBp d s))

/-- A7 SMB2 BP, R225. -/
def execSmb2 (d : Byte) (s : State) : Result :=
  retire s 2 (s.setBit 2 (eaBp d s))

/-- B7 SMB3 BP, R225. -/
def execSmb3 (d : Byte) (s : State) : Result :=
  retire s 2 (s.setBit 3 (eaBp d s))

/-- C7 SMB4 BP, R225. -/
def execSmb4 (d : Byte) (s : State) : Result :=
  retire s 2 (s.setBit 4 (eaBp d s))

/-- D7 SMB5 BP, R225. -/
def execSmb5 (d : Byte) (s : State) : Result :=
  retire s 2 (s.setBit 5 (eaBp d s))

/-- E7 SMB6 BP, R225. -/
def execSmb6 (d : Byte) (s : State) : Result :=
  retire s 2 (s.setBit 6 (eaBp d s))

/-- F7 SMB7 BP, R225. -/
def execSmb7 (d : Byte) (s : State) : Result :=
  retire s 2 (s.setBit 7 (eaBp d s))

end Sys2Proof.Machine
end

