-- ==== Sys2Proof/Machine/Branch.lean ====
section
/-! DEFINITION. Branches (spec/41_branches_jumps.md R150 to R161): no flag is written, the count of cycles does not depend on the outcome. -/

namespace Sys2Proof.Machine

/-- The template of R150: to the target if the condition holds, else to the next instruction. -/
def branch (s : State) (len : Word) (cond : Bool) (target : Word) : Result :=
  .next (s.setPc (if cond then target else s.pc + len))

/-- 0F BBR0 BP REL, R160. -/
def execBbr0 (d : Byte) (r : Byte) (s : State) : Result :=
  branch s 3 (!(s.dataAt (eaBp d s)).getLsbD 0) (targetBpRel r s)

/-- 10 BPL REL, R156. -/
def execBplRel (r : Byte) (s : State) : Result :=
  branch s 2 (!s.p.n) (targetRel r s)

/-- 13 BPL W REL, R156. -/
def execBplWrel (w : Word) (s : State) : Result :=
  branch s 3 (!s.p.n) (targetWrel w s)

/-- 1F BBR1 BP REL, R160. -/
def execBbr1 (d : Byte) (r : Byte) (s : State) : Result :=
  branch s 3 (!(s.dataAt (eaBp d s)).getLsbD 1) (targetBpRel r s)

/-- 2F BBR2 BP REL, R160. -/
def execBbr2 (d : Byte) (r : Byte) (s : State) : Result :=
  branch s 3 (!(s.dataAt (eaBp d s)).getLsbD 2) (targetBpRel r s)

/-- 30 BMI REL, R154. -/
def execBmiRel (r : Byte) (s : State) : Result :=
  branch s 2 s.p.n (targetRel r s)

/-- 33 BMI W REL, R154. -/
def execBmiWrel (w : Word) (s : State) : Result :=
  branch s 3 s.p.n (targetWrel w s)

/-- 3F BBR3 BP REL, R160. -/
def execBbr3 (d : Byte) (r : Byte) (s : State) : Result :=
  branch s 3 (!(s.dataAt (eaBp d s)).getLsbD 3) (targetBpRel r s)

/-- 4F BBR4 BP REL, R160. -/
def execBbr4 (d : Byte) (r : Byte) (s : State) : Result :=
  branch s 3 (!(s.dataAt (eaBp d s)).getLsbD 4) (targetBpRel r s)

/-- 50 BVC REL, R157. -/
def execBvcRel (r : Byte) (s : State) : Result :=
  branch s 2 (!s.p.v) (targetRel r s)

/-- 53 BVC W REL, R157. -/
def execBvcWrel (w : Word) (s : State) : Result :=
  branch s 3 (!s.p.v) (targetWrel w s)

/-- 5F BBR5 BP REL, R160. -/
def execBbr5 (d : Byte) (r : Byte) (s : State) : Result :=
  branch s 3 (!(s.dataAt (eaBp d s)).getLsbD 5) (targetBpRel r s)

/-- 6F BBR6 BP REL, R160. -/
def execBbr6 (d : Byte) (r : Byte) (s : State) : Result :=
  branch s 3 (!(s.dataAt (eaBp d s)).getLsbD 6) (targetBpRel r s)

/-- 70 BVS REL, R158. -/
def execBvsRel (r : Byte) (s : State) : Result :=
  branch s 2 s.p.v (targetRel r s)

/-- 73 BVS W REL, R158. -/
def execBvsWrel (w : Word) (s : State) : Result :=
  branch s 3 s.p.v (targetWrel w s)

/-- 7F BBR7 BP REL, R160. -/
def execBbr7 (d : Byte) (r : Byte) (s : State) : Result :=
  branch s 3 (!(s.dataAt (eaBp d s)).getLsbD 7) (targetBpRel r s)

/-- 80 BRU REL, R159. -/
def execBruRel (r : Byte) (s : State) : Result :=
  branch s 2 true (targetRel r s)

/-- 83 BRU W REL, R159. -/
def execBruWrel (w : Word) (s : State) : Result :=
  branch s 3 true (targetWrel w s)

/-- 8F BBS0 BP REL, R161. -/
def execBbs0 (d : Byte) (r : Byte) (s : State) : Result :=
  branch s 3 ((s.dataAt (eaBp d s)).getLsbD 0) (targetBpRel r s)

/-- 90 BCC REL, R151. -/
def execBccRel (r : Byte) (s : State) : Result :=
  branch s 2 (!s.p.c) (targetRel r s)

/-- 93 BCC W REL, R151. -/
def execBccWrel (w : Word) (s : State) : Result :=
  branch s 3 (!s.p.c) (targetWrel w s)

/-- 9F BBS1 BP REL, R161. -/
def execBbs1 (d : Byte) (r : Byte) (s : State) : Result :=
  branch s 3 ((s.dataAt (eaBp d s)).getLsbD 1) (targetBpRel r s)

/-- AF BBS2 BP REL, R161. -/
def execBbs2 (d : Byte) (r : Byte) (s : State) : Result :=
  branch s 3 ((s.dataAt (eaBp d s)).getLsbD 2) (targetBpRel r s)

/-- B0 BCS REL, R152. -/
def execBcsRel (r : Byte) (s : State) : Result :=
  branch s 2 s.p.c (targetRel r s)

/-- B3 BCS W REL, R152. -/
def execBcsWrel (w : Word) (s : State) : Result :=
  branch s 3 s.p.c (targetWrel w s)

/-- BF BBS3 BP REL, R161. -/
def execBbs3 (d : Byte) (r : Byte) (s : State) : Result :=
  branch s 3 ((s.dataAt (eaBp d s)).getLsbD 3) (targetBpRel r s)

/-- CF BBS4 BP REL, R161. -/
def execBbs4 (d : Byte) (r : Byte) (s : State) : Result :=
  branch s 3 ((s.dataAt (eaBp d s)).getLsbD 4) (targetBpRel r s)

/-- D0 BNE REL, R155. -/
def execBneRel (r : Byte) (s : State) : Result :=
  branch s 2 (!s.p.zf) (targetRel r s)

/-- D3 BNE W REL, R155. -/
def execBneWrel (w : Word) (s : State) : Result :=
  branch s 3 (!s.p.zf) (targetWrel w s)

/-- DF BBS5 BP REL, R161. -/
def execBbs5 (d : Byte) (r : Byte) (s : State) : Result :=
  branch s 3 ((s.dataAt (eaBp d s)).getLsbD 5) (targetBpRel r s)

/-- EF BBS6 BP REL, R161. -/
def execBbs6 (d : Byte) (r : Byte) (s : State) : Result :=
  branch s 3 ((s.dataAt (eaBp d s)).getLsbD 6) (targetBpRel r s)

/-- F0 BEQ REL, R153. -/
def execBeqRel (r : Byte) (s : State) : Result :=
  branch s 2 s.p.zf (targetRel r s)

/-- F3 BEQ W REL, R153. -/
def execBeqWrel (w : Word) (s : State) : Result :=
  branch s 3 s.p.zf (targetWrel w s)

/-- FF BBS7 BP REL, R161. -/
def execBbs7 (d : Byte) (r : Byte) (s : State) : Result :=
  branch s 3 ((s.dataAt (eaBp d s)).getLsbD 7) (targetBpRel r s)

end Sys2Proof.Machine
end

