-- ==== Sys2Proof/Machine/Count.lean ====
section
/-! DEFINITION. Increment, decrement and negate (R204 to R214). -/

namespace Sys2Proof.Machine

/-- Writes a result byte back to memory with `SetNZ`. -/
def State.putMem (s : State) (ea : Word) (v : Byte) : State := (s.writeData ea v).setP (s.p.nz v)

/-- Writes a result word back to memory, low byte first, with `SetNZ16`. -/
def State.putWord (s : State) (loAddr hiAddr w : Word) : State :=
  (s.writeWord loAddr hiAddr w).setP (s.p.nz16 w)

/-- 1A INC ACCUM, R204. -/
def execIncA (s : State) : Result :=
  retire s 1 (s.putA (s.a + 1))

/-- E6 INC BP, R204. -/
def execIncBp (d : Byte) (s : State) : Result :=
  retire s 2 (s.putMem (eaBp d s) (s.dataAt (eaBp d s) + 1))

/-- EE INC ABS, R204. -/
def execIncAbs (w : Word) (s : State) : Result :=
  retire s 3 (s.putMem (eaAbs w s) (s.dataAt (eaAbs w s) + 1))

/-- F6 INC BP,X, R204. -/
def execIncBpX (d : Byte) (s : State) : Result :=
  retire s 2 (s.putMem (eaBpX d s) (s.dataAt (eaBpX d s) + 1))

/-- FE INC ABS,X, R204. -/
def execIncAbsX (w : Word) (s : State) : Result :=
  retire s 3 (s.putMem (eaAbsX w s) (s.dataAt (eaAbsX w s) + 1))

/-- 1B INZ IMPLIED, R208. -/
def execInz (s : State) : Result :=
  retire s 1 (s.putZ (s.z + 1))

/-- 3A DEC ACCUM, R205. -/
def execDecA (s : State) : Result :=
  retire s 1 (s.putA (s.a - 1))

/-- C6 DEC BP, R205. -/
def execDecBp (d : Byte) (s : State) : Result :=
  retire s 2 (s.putMem (eaBp d s) (s.dataAt (eaBp d s) - 1))

/-- CE DEC ABS, R205. -/
def execDecAbs (w : Word) (s : State) : Result :=
  retire s 3 (s.putMem (eaAbs w s) (s.dataAt (eaAbs w s) - 1))

/-- D6 DEC BP,X, R205. -/
def execDecBpX (d : Byte) (s : State) : Result :=
  retire s 2 (s.putMem (eaBpX d s) (s.dataAt (eaBpX d s) - 1))

/-- DE DEC ABS,X, R205. -/
def execDecAbsX (w : Word) (s : State) : Result :=
  retire s 3 (s.putMem (eaAbsX w s) (s.dataAt (eaAbsX w s) - 1))

/-- 3B DEZ IMPLIED, R211. -/
def execDez (s : State) : Result :=
  retire s 1 (s.putZ (s.z - 1))

/-- 42 NEG ACCUM, R214. -/
def execNeg (s : State) : Result :=
  retire s 1 (s.putA (0 - s.a))

/-- 88 DEY IMPLIED, R210. -/
def execDey (s : State) : Result :=
  retire s 1 (s.putY (s.y - 1))

/-- C3 DEW BP, R213. -/
def execDew (d : Byte) (s : State) : Result :=
  retire s 2 (s.putWord (eaBp d s) (eaBpNext d s) (s.wordAt (eaBp d s) (eaBpNext d s) - 1))

/-- C8 INY IMPLIED, R207. -/
def execIny (s : State) : Result :=
  retire s 1 (s.putY (s.y + 1))

/-- CA DEX IMPLIED, R209. -/
def execDex (s : State) : Result :=
  retire s 1 (s.putX (s.x - 1))

/-- E3 INW BP, R212. -/
def execInw (d : Byte) (s : State) : Result :=
  retire s 2 (s.putWord (eaBp d s) (eaBpNext d s) (s.wordAt (eaBp d s) (eaBpNext d s) + 1))

/-- E8 INX IMPLIED, R206. -/
def execInx (s : State) : Result :=
  retire s 1 (s.putX (s.x + 1))

end Sys2Proof.Machine
end

