-- ==== Sys2Proof/Machine/Jump.lean ====
section
/-! DEFINITION. Jumps, calls and returns (R162 to R166). -/

namespace Sys2Proof.Machine

/-- A call, R162, R164: the address of the call's last byte is pushed, then the target is formed in
the state after the pushes (R67: "the pushes come before the pointer reads"). -/
def call (s : State) (target : State → Word) : Result :=
  .next ((s.callPush (s.pc + 2)).setPc (target (s.callPush (s.pc + 2))))

/-- 20 JSR ABS, R164. -/
def execJsrAbs (w : Word) (s : State) : Result :=
  call s (fun _ => w)

/-- 22 JSR (ABS), R164. -/
def execJsrAbsInd (w : Word) (s : State) : Result :=
  call s (targetAbsInd w)

/-- 23 JSR (ABS,X), R164. -/
def execJsrAbsXInd (w : Word) (s : State) : Result :=
  call s (targetAbsXInd w)

/-- 4C JMP ABS, R163. -/
def execJmpAbs (w : Word) (s : State) : Result :=
  .next (s.setPc w)

/-- 6C JMP (ABS), R163. -/
def execJmpAbsInd (w : Word) (s : State) : Result :=
  .next (s.setPc (targetAbsInd w s))

/-- 7C JMP (ABS,X), R163. -/
def execJmpAbsXInd (w : Word) (s : State) : Result :=
  .next (s.setPc (targetAbsXInd w s))

/-- 60 RTS IMPLIED, R165. -/
def execRts (s : State) : Result :=
  .next (s.afterReturnPull.setPc s.returnAddress)

/-- 62 RTN IMM, R166. -/
def execRtn (n : Byte) (s : State) : Result :=
  match s.cfg.rtnOrder with
  | .pullThenAdjust => .next ((s.afterReturnPull.adjustSp n).setPc s.returnAddress)
  | .adjustThenPull => .next ((s.adjustSp n).afterReturnPull.setPc (s.adjustSp n).returnAddress)

/-- 63 BSR W REL, R162. -/
def execBsr (w : Word) (s : State) : Result :=
  call s (fun _ => targetWrel w s)

end Sys2Proof.Machine
end

