-- ==== Sys2Proof/Machine/Load.lean ====
section
/-! DEFINITION. The loads LDA, LDX, LDY, LDZ (spec/43_load_store_stack_transfer.md R250 to R254). -/

namespace Sys2Proof.Machine

/-- A0 LDY IMM, R253. -/
def execLdyImm (m : Byte) (s : State) : Result :=
  retire s 2 (s.putY m)

/-- A4 LDY BP, R253. -/
def execLdyBp (d : Byte) (s : State) : Result :=
  retire s 2 (s.putY (s.dataAt (eaBp d s)))

/-- AC LDY ABS, R253. -/
def execLdyAbs (w : Word) (s : State) : Result :=
  retire s 3 (s.putY (s.dataAt (eaAbs w s)))

/-- B4 LDY BP,X, R253. -/
def execLdyBpX (d : Byte) (s : State) : Result :=
  retire s 2 (s.putY (s.dataAt (eaBpX d s)))

/-- BC LDY ABS,X, R253. -/
def execLdyAbsX (w : Word) (s : State) : Result :=
  retire s 3 (s.putY (s.dataAt (eaAbsX w s)))

/-- A1 LDA (BP,X), R251. -/
def execLdaBpXInd (d : Byte) (s : State) : Result :=
  retire s 2 (s.putA (s.dataAt (eaBpXInd d s)))

/-- A5 LDA BP, R251. -/
def execLdaBp (d : Byte) (s : State) : Result :=
  retire s 2 (s.putA (s.dataAt (eaBp d s)))

/-- A9 LDA IMM, R251. -/
def execLdaImm (m : Byte) (s : State) : Result :=
  retire s 2 (s.putA m)

/-- AD LDA ABS, R251. -/
def execLdaAbs (w : Word) (s : State) : Result :=
  retire s 3 (s.putA (s.dataAt (eaAbs w s)))

/-- B1 LDA (BP),Y, R251. -/
def execLdaBpIndY (d : Byte) (s : State) : Result :=
  retire s 2 (s.putA (s.dataAt (eaBpIndY d s)))

/-- B2 LDA (BP),Z, R251. -/
def execLdaBpIndZ (d : Byte) (s : State) : Result :=
  retire s 2 (s.putA (s.dataAt (eaBpIndZ d s)))

/-- B5 LDA BP,X, R251. -/
def execLdaBpX (d : Byte) (s : State) : Result :=
  retire s 2 (s.putA (s.dataAt (eaBpX d s)))

/-- B9 LDA ABS,Y, R251. -/
def execLdaAbsY (w : Word) (s : State) : Result :=
  retire s 3 (s.putA (s.dataAt (eaAbsY w s)))

/-- BD LDA ABS,X, R251. -/
def execLdaAbsX (w : Word) (s : State) : Result :=
  retire s 3 (s.putA (s.dataAt (eaAbsX w s)))

/-- E2 LDA (D,SP),Y, R251. -/
def execLdaSpIndY (d : Byte) (s : State) : Result :=
  retire s 2 (s.putA (s.dataAt (eaSpIndY d s)))

/-- A2 LDX IMM, R252. -/
def execLdxImm (m : Byte) (s : State) : Result :=
  retire s 2 (s.putX m)

/-- A6 LDX BP, R252. -/
def execLdxBp (d : Byte) (s : State) : Result :=
  retire s 2 (s.putX (s.dataAt (eaBp d s)))

/-- AE LDX ABS, R252. -/
def execLdxAbs (w : Word) (s : State) : Result :=
  retire s 3 (s.putX (s.dataAt (eaAbs w s)))

/-- B6 LDX BP,Y, R252. -/
def execLdxBpY (d : Byte) (s : State) : Result :=
  retire s 2 (s.putX (s.dataAt (eaBpY d s)))

/-- BE LDX ABS,Y, R252. -/
def execLdxAbsY (w : Word) (s : State) : Result :=
  retire s 3 (s.putX (s.dataAt (eaAbsY w s)))

/-- A3 LDZ IMM, R254. -/
def execLdzImm (m : Byte) (s : State) : Result :=
  retire s 2 (s.putZ m)

/-- AB LDZ ABS, R254. -/
def execLdzAbs (w : Word) (s : State) : Result :=
  retire s 3 (s.putZ (s.dataAt (eaAbs w s)))

/-- BB LDZ ABS,X, R254. -/
def execLdzAbsX (w : Word) (s : State) : Result :=
  retire s 3 (s.putZ (s.dataAt (eaAbsX w s)))

end Sys2Proof.Machine
end

