-- ==== Sys2Proof/Machine/Logic.lean ====
section
/-! DEFINITION. AND, ORA, EOR and BIT (R196 to R199). -/

namespace Sys2Proof.Machine

/-- BIT of an operand byte, R199: N and V are its bits 7 and 6 in every mode. -/
def State.bitTest (s : State) (m : Byte) : State :=
  s.setP { s.p with zf := (s.a &&& m) == 0, n := m.getLsbD 7, v := m.getLsbD 6 }

/-- 01 ORA (BP,X), R197. -/
def execOraBpXInd (d : Byte) (s : State) : Result :=
  retire s 2 (s.putA (s.a ||| (s.dataAt (eaBpXInd d s))))

/-- 05 ORA BP, R197. -/
def execOraBp (d : Byte) (s : State) : Result :=
  retire s 2 (s.putA (s.a ||| (s.dataAt (eaBp d s))))

/-- 09 ORA IMM, R197. -/
def execOraImm (m : Byte) (s : State) : Result :=
  retire s 2 (s.putA (s.a ||| m))

/-- 0D ORA ABS, R197. -/
def execOraAbs (w : Word) (s : State) : Result :=
  retire s 3 (s.putA (s.a ||| (s.dataAt (eaAbs w s))))

/-- 11 ORA (BP),Y, R197. -/
def execOraBpIndY (d : Byte) (s : State) : Result :=
  retire s 2 (s.putA (s.a ||| (s.dataAt (eaBpIndY d s))))

/-- 12 ORA (BP),Z, R197. -/
def execOraBpIndZ (d : Byte) (s : State) : Result :=
  retire s 2 (s.putA (s.a ||| (s.dataAt (eaBpIndZ d s))))

/-- 15 ORA BP,X, R197. -/
def execOraBpX (d : Byte) (s : State) : Result :=
  retire s 2 (s.putA (s.a ||| (s.dataAt (eaBpX d s))))

/-- 19 ORA ABS,Y, R197. -/
def execOraAbsY (w : Word) (s : State) : Result :=
  retire s 3 (s.putA (s.a ||| (s.dataAt (eaAbsY w s))))

/-- 1D ORA ABS,X, R197. -/
def execOraAbsX (w : Word) (s : State) : Result :=
  retire s 3 (s.putA (s.a ||| (s.dataAt (eaAbsX w s))))

/-- 21 AND (BP,X), R196. -/
def execAndBpXInd (d : Byte) (s : State) : Result :=
  retire s 2 (s.putA (s.a &&& (s.dataAt (eaBpXInd d s))))

/-- 25 AND BP, R196. -/
def execAndBp (d : Byte) (s : State) : Result :=
  retire s 2 (s.putA (s.a &&& (s.dataAt (eaBp d s))))

/-- 29 AND IMM, R196. -/
def execAndImm (m : Byte) (s : State) : Result :=
  retire s 2 (s.putA (s.a &&& m))

/-- 2D AND ABS, R196. -/
def execAndAbs (w : Word) (s : State) : Result :=
  retire s 3 (s.putA (s.a &&& (s.dataAt (eaAbs w s))))

/-- 31 AND (BP),Y, R196. -/
def execAndBpIndY (d : Byte) (s : State) : Result :=
  retire s 2 (s.putA (s.a &&& (s.dataAt (eaBpIndY d s))))

/-- 32 AND (BP),Z, R196. -/
def execAndBpIndZ (d : Byte) (s : State) : Result :=
  retire s 2 (s.putA (s.a &&& (s.dataAt (eaBpIndZ d s))))

/-- 35 AND BP,X, R196. -/
def execAndBpX (d : Byte) (s : State) : Result :=
  retire s 2 (s.putA (s.a &&& (s.dataAt (eaBpX d s))))

/-- 39 AND ABS,Y, R196. -/
def execAndAbsY (w : Word) (s : State) : Result :=
  retire s 3 (s.putA (s.a &&& (s.dataAt (eaAbsY w s))))

/-- 3D AND ABS,X, R196. -/
def execAndAbsX (w : Word) (s : State) : Result :=
  retire s 3 (s.putA (s.a &&& (s.dataAt (eaAbsX w s))))

/-- 24 BIT BP, R199. -/
def execBitBp (d : Byte) (s : State) : Result :=
  retire s 2 (s.bitTest (s.dataAt (eaBp d s)))

/-- 2C BIT ABS, R199. -/
def execBitAbs (w : Word) (s : State) : Result :=
  retire s 3 (s.bitTest (s.dataAt (eaAbs w s)))

/-- 34 BIT BP,X, R199. -/
def execBitBpX (d : Byte) (s : State) : Result :=
  retire s 2 (s.bitTest (s.dataAt (eaBpX d s)))

/-- 3C BIT ABS,X, R199. -/
def execBitAbsX (w : Word) (s : State) : Result :=
  retire s 3 (s.bitTest (s.dataAt (eaAbsX w s)))

/-- 89 BIT IMM, R199. -/
def execBitImm (m : Byte) (s : State) : Result :=
  retire s 2 (s.bitTest m)

/-- 41 EOR (BP,X), R198. -/
def execEorBpXInd (d : Byte) (s : State) : Result :=
  retire s 2 (s.putA (s.a ^^^ (s.dataAt (eaBpXInd d s))))

/-- 45 EOR BP, R198. -/
def execEorBp (d : Byte) (s : State) : Result :=
  retire s 2 (s.putA (s.a ^^^ (s.dataAt (eaBp d s))))

/-- 49 EOR IMM, R198. -/
def execEorImm (m : Byte) (s : State) : Result :=
  retire s 2 (s.putA (s.a ^^^ m))

/-- 4D EOR ABS, R198. -/
def execEorAbs (w : Word) (s : State) : Result :=
  retire s 3 (s.putA (s.a ^^^ (s.dataAt (eaAbs w s))))

/-- 51 EOR (BP),Y, R198. -/
def execEorBpIndY (d : Byte) (s : State) : Result :=
  retire s 2 (s.putA (s.a ^^^ (s.dataAt (eaBpIndY d s))))

/-- 52 EOR (BP),Z, R198. -/
def execEorBpIndZ (d : Byte) (s : State) : Result :=
  retire s 2 (s.putA (s.a ^^^ (s.dataAt (eaBpIndZ d s))))

/-- 55 EOR BP,X, R198. -/
def execEorBpX (d : Byte) (s : State) : Result :=
  retire s 2 (s.putA (s.a ^^^ (s.dataAt (eaBpX d s))))

/-- 59 EOR ABS,Y, R198. -/
def execEorAbsY (w : Word) (s : State) : Result :=
  retire s 3 (s.putA (s.a ^^^ (s.dataAt (eaAbsY w s))))

/-- 5D EOR ABS,X, R198. -/
def execEorAbsX (w : Word) (s : State) : Result :=
  retire s 3 (s.putA (s.a ^^^ (s.dataAt (eaAbsX w s))))

end Sys2Proof.Machine
end

