-- ==== Sys2Proof/Machine/Shift.lean ====
section
/-! DEFINITION. Shifts and rotates (R215 to R221). -/

namespace Sys2Proof.Machine

/-- A shift of the accumulator. -/
def State.shiftA (s : State) (op : Bool → Byte → Byte × Bool) : State :=
  (s.setA (op s.p.c s.a).1).setP (s.p.shifted (op s.p.c s.a))

/-- A shift of a byte in memory: one read, one write. -/
def State.shiftMem (s : State) (op : Bool → Byte → Byte × Bool) (ea : Word) : State :=
  (s.writeData ea (op s.p.c (s.dataAt ea)).1).setP (s.p.shifted (op s.p.c (s.dataAt ea)))

/-- A shift of a word in memory: two reads, two writes, low byte first. -/
def State.shiftWord (s : State) (op : Bool → Word → Word × Bool) (loAddr hiAddr : Word) : State :=
  (s.writeWord loAddr hiAddr (op s.p.c (s.wordAt loAddr hiAddr)).1).setP
    (s.p.shifted16 (op s.p.c (s.wordAt loAddr hiAddr)))

/-- 06 ASL BP, R215. -/
def execAslBp (d : Byte) (s : State) : Result :=
  retire s 2 (s.shiftMem aslOp (eaBp d s))

/-- 0A ASL ACCUM, R215. -/
def execAslA (s : State) : Result :=
  retire s 1 (s.shiftA aslOp)

/-- 0E ASL ABS, R215. -/
def execAslAbs (w : Word) (s : State) : Result :=
  retire s 3 (s.shiftMem aslOp (eaAbs w s))

/-- 16 ASL BP,X, R215. -/
def execAslBpX (d : Byte) (s : State) : Result :=
  retire s 2 (s.shiftMem aslOp (eaBpX d s))

/-- 1E ASL ABS,X, R215. -/
def execAslAbsX (w : Word) (s : State) : Result :=
  retire s 3 (s.shiftMem aslOp (eaAbsX w s))

/-- 26 ROL BP, R218. -/
def execRolBp (d : Byte) (s : State) : Result :=
  retire s 2 (s.shiftMem rolOp (eaBp d s))

/-- 2A ROL ACCUM, R218. -/
def execRolA (s : State) : Result :=
  retire s 1 (s.shiftA rolOp)

/-- 2E ROL ABS, R218. -/
def execRolAbs (w : Word) (s : State) : Result :=
  retire s 3 (s.shiftMem rolOp (eaAbs w s))

/-- 36 ROL BP,X, R218. -/
def execRolBpX (d : Byte) (s : State) : Result :=
  retire s 2 (s.shiftMem rolOp (eaBpX d s))

/-- 3E ROL ABS,X, R218. -/
def execRolAbsX (w : Word) (s : State) : Result :=
  retire s 3 (s.shiftMem rolOp (eaAbsX w s))

/-- 43 ASR ACCUM, R217. -/
def execAsrA (s : State) : Result :=
  retire s 1 (s.shiftA asrOp)

/-- 44 ASR BP, R217. -/
def execAsrBp (d : Byte) (s : State) : Result :=
  retire s 2 (s.shiftMem asrOp (eaBp d s))

/-- 54 ASR BP,X, R217. -/
def execAsrBpX (d : Byte) (s : State) : Result :=
  retire s 2 (s.shiftMem asrOp (eaBpX d s))

/-- 46 LSR BP, R216. -/
def execLsrBp (d : Byte) (s : State) : Result :=
  retire s 2 (s.shiftMem lsrOp (eaBp d s))

/-- 4A LSR ACCUM, R216. -/
def execLsrA (s : State) : Result :=
  retire s 1 (s.shiftA lsrOp)

/-- 4E LSR ABS, R216. -/
def execLsrAbs (w : Word) (s : State) : Result :=
  retire s 3 (s.shiftMem lsrOp (eaAbs w s))

/-- 56 LSR BP,X, R216. -/
def execLsrBpX (d : Byte) (s : State) : Result :=
  retire s 2 (s.shiftMem lsrOp (eaBpX d s))

/-- 5E LSR ABS,X, R216. -/
def execLsrAbsX (w : Word) (s : State) : Result :=
  retire s 3 (s.shiftMem lsrOp (eaAbsX w s))

/-- 66 ROR BP, R219. -/
def execRorBp (d : Byte) (s : State) : Result :=
  retire s 2 (s.shiftMem rorOp (eaBp d s))

/-- 6A ROR ACCUM, R219. -/
def execRorA (s : State) : Result :=
  retire s 1 (s.shiftA rorOp)

/-- 6E ROR ABS, R219. -/
def execRorAbs (w : Word) (s : State) : Result :=
  retire s 3 (s.shiftMem rorOp (eaAbs w s))

/-- 76 ROR BP,X, R219. -/
def execRorBpX (d : Byte) (s : State) : Result :=
  retire s 2 (s.shiftMem rorOp (eaBpX d s))

/-- 7E ROR ABS,X, R219. -/
def execRorAbsX (w : Word) (s : State) : Result :=
  retire s 3 (s.shiftMem rorOp (eaAbsX w s))

/-- CB ASW ABS, R220. -/
def execAsw (w : Word) (s : State) : Result :=
  retire s 3 (s.shiftWord aswOp w (w + 1))

/-- EB ROW ABS, R221. -/
def execRow (w : Word) (s : State) : Result :=
  retire s 3 (s.shiftWord rowOp w (w + 1))

end Sys2Proof.Machine
end

