-- ==== Sys2Proof/Machine/Stack.lean ====
section
/-! DEFINITION. Pushes and pulls (R259 to R269). -/

namespace Sys2Proof.Machine

/-- The two pushes of PHW, R264, in the order `PHW_ORDER` (D8). -/
def State.pushWord (s : State) (w : Word) : State :=
  match s.cfg.phwOrder with
  | .highFirst => (s.push .push1 (hiByte w)).push .push2 (loByte w)
  | .lowFirst => (s.push .push1 (loByte w)).push .push2 (hiByte w)

/-- The word PHW ABS pushes, low byte read first (R139), before the pushes. -/
def State.sourceWord (s : State) (w : Word) : Word :=
  wordOf (s.read .sourceHi (w + 1)) (s.read .sourceLo w)

/-- 08 PHP IMPLIED, R260. -/
def execPhp (s : State) : Result :=
  retire s 1 (s.push .push1 (s.p.image true))

/-- 28 PLP IMPLIED, R266. -/
def execPlp (s : State) : Result :=
  retire s 1 s.pullP

/-- 48 PHA IMPLIED, R259. -/
def execPha (s : State) : Result :=
  retire s 1 (s.push .push1 s.a)

/-- 5A PHY IMPLIED, R262. -/
def execPhy (s : State) : Result :=
  retire s 1 (s.push .push1 s.y)

/-- 68 PLA IMPLIED, R265. -/
def execPla (s : State) : Result :=
  retire s 1 (s.incSp.putA (s.pulled .pull1))

/-- 7A PLY IMPLIED, R268. -/
def execPly (s : State) : Result :=
  retire s 1 (s.incSp.putY (s.pulled .pull1))

/-- DA PHX IMPLIED, R261. -/
def execPhx (s : State) : Result :=
  retire s 1 (s.push .push1 s.x)

/-- DB PHZ IMPLIED, R263. -/
def execPhz (s : State) : Result :=
  retire s 1 (s.push .push1 s.z)

/-- F4 PHW IMM W, R264. -/
def execPhwImmW (w : Word) (s : State) : Result :=
  retire s 3 (s.pushWord w)

/-- FC PHW ABS, R264. -/
def execPhwAbs (w : Word) (s : State) : Result :=
  retire s 3 (s.pushWord (s.sourceWord w))

/-- FA PLX IMPLIED, R267. -/
def execPlx (s : State) : Result :=
  retire s 1 (s.incSp.putX (s.pulled .pull1))

/-- FB PLZ IMPLIED, R269. -/
def execPlz (s : State) : Result :=
  retire s 1 (s.incSp.putZ (s.pulled .pull1))

end Sys2Proof.Machine
end

