-- ==== Sys2Proof/Machine/Store.lean ====
section
/-! DEFINITION. The stores STA, STX, STY, STZ (R255 to R258): the target is not read, no flag is written. -/

namespace Sys2Proof.Machine

/-- 64 STZ BP, R258. -/
def execStzBp (d : Byte) (s : State) : Result :=
  retire s 2 (s.writeData (eaBp d s) s.z)

/-- 74 STZ BP,X, R258. -/
def execStzBpX (d : Byte) (s : State) : Result :=
  retire s 2 (s.writeData (eaBpX d s) s.z)

/-- 9C STZ ABS, R258. -/
def execStzAbs (w : Word) (s : State) : Result :=
  retire s 3 (s.writeData (eaAbs w s) s.z)

/-- 9E STZ ABS,X, R258. -/
def execStzAbsX (w : Word) (s : State) : Result :=
  retire s 3 (s.writeData (eaAbsX w s) s.z)

/-- 81 STA (BP,X), R255. -/
def execStaBpXInd (d : Byte) (s : State) : Result :=
  retire s 2 (s.writeData (eaBpXInd d s) s.a)

/-- 82 STA (D,SP),Y, R255. -/
def execStaSpIndY (d : Byte) (s : State) : Result :=
  retire s 2 (s.writeData (eaSpIndY d s) s.a)

/-- 85 STA BP, R255. -/
def execStaBp (d : Byte) (s : State) : Result :=
  retire s 2 (s.writeData (eaBp d s) s.a)

/-- 8D STA ABS, R255. -/
def execStaAbs (w : Word) (s : State) : Result :=
  retire s 3 (s.writeData (eaAbs w s) s.a)

/-- 91 STA (BP),Y, R255. -/
def execStaBpIndY (d : Byte) (s : State) : Result :=
  retire s 2 (s.writeData (eaBpIndY d s) s.a)

/-- 92 STA (BP),Z, R255. -/
def execStaBpIndZ (d : Byte) (s : State) : Result :=
  retire s 2 (s.writeData (eaBpIndZ d s) s.a)

/-- 95 STA BP,X, R255. -/
def execStaBpX (d : Byte) (s : State) : Result :=
  retire s 2 (s.writeData (eaBpX d s) s.a)

/-- 99 STA ABS,Y, R255. -/
def execStaAbsY (w : Word) (s : State) : Result :=
  retire s 3 (s.writeData (eaAbsY w s) s.a)

/-- 9D STA ABS,X, R255. -/
def execStaAbsX (w : Word) (s : State) : Result :=
  retire s 3 (s.writeData (eaAbsX w s) s.a)

/-- 84 STY BP, R257. -/
def execStyBp (d : Byte) (s : State) : Result :=
  retire s 2 (s.writeData (eaBp d s) s.y)

/-- 8B STY ABS,X, R257. -/
def execStyAbsX (w : Word) (s : State) : Result :=
  retire s 3 (s.writeData (eaAbsX w s) s.y)

/-- 8C STY ABS, R257. -/
def execStyAbs (w : Word) (s : State) : Result :=
  retire s 3 (s.writeData (eaAbs w s) s.y)

/-- 94 STY BP,X, R257. -/
def execStyBpX (d : Byte) (s : State) : Result :=
  retire s 2 (s.writeData (eaBpX d s) s.y)

/-- 86 STX BP, R256. -/
def execStxBp (d : Byte) (s : State) : Result :=
  retire s 2 (s.writeData (eaBp d s) s.x)

/-- 8E STX ABS, R256. -/
def execStxAbs (w : Word) (s : State) : Result :=
  retire s 3 (s.writeData (eaAbs w s) s.x)

/-- 96 STX BP,Y, R256. -/
def execStxBpY (d : Byte) (s : State) : Result :=
  retire s 2 (s.writeData (eaBpY d s) s.x)

/-- 9B STX ABS,Y, R256. -/
def execStxAbsY (w : Word) (s : State) : Result :=
  retire s 3 (s.writeData (eaAbsY w s) s.x)

end Sys2Proof.Machine
end

