-- ==== Sys2Proof/Machine/System.lean ====
section
/-! DEFINITION. Flag instructions, NOP, AUG, BRK and RTI (spec/44_special.md R310 to R323). -/

namespace Sys2Proof.Machine

/-- 00 BRK IMPLIED, R322. -/
def execBrk (_sig : Byte) (s : State) : Result :=
  .next (s.trapEntry irqVector (s.pc + 2) true)

/-- 02 CLE IMPLIED, R318. -/
def execCle (s : State) : Result :=
  retire s 1 (s.setP { s.p with e := false })

/-- 03 SEE IMPLIED, R319. -/
def execSee (s : State) : Result :=
  retire s 1 (s.setP { s.p with e := true })

/-- 18 CLC IMPLIED, R311. -/
def execClc (s : State) : Result :=
  retire s 1 (s.setP { s.p with c := false })

/-- 38 SEC IMPLIED, R312. -/
def execSec (s : State) : Result :=
  retire s 1 (s.setP { s.p with c := true })

/-- 40 RTI IMPLIED, R323. -/
def execRti (s : State) : Result :=
  .next s.trapReturn

/-- 58 CLI IMPLIED, R315. -/
def execCli (s : State) : Result :=
  retire s 1 (s.setP { s.p with i := false })

/-- 5C AUG (none; 3 ignored bytes), R321. -/
def execAug (_b1 : Byte) (_b2 : Byte) (_b3 : Byte) (s : State) : Result :=
  retire s 4 s

/-- 78 SEI IMPLIED, R316. -/
def execSei (s : State) : Result :=
  retire s 1 (s.setP { s.p with i := true })

/-- B8 CLV IMPLIED, R317. -/
def execClv (s : State) : Result :=
  retire s 1 (s.setP { s.p with v := false })

/-- D8 CLD IMPLIED, R313. -/
def execCld (s : State) : Result :=
  retire s 1 (s.setP { s.p with d := false })

/-- EA NOP IMPLIED, R320. -/
def execNop (s : State) : Result :=
  retire s 1 s

/-- F8 SED IMPLIED, R314. -/
def execSed (s : State) : Result :=
  retire s 1 (s.setP { s.p with d := true })

end Sys2Proof.Machine
end

