-- ==== Sys2Proof/Machine/Transfer.lean ====
section
/-! DEFINITION. The register transfers (R270 to R281); TAB, TXS and TYS write no flag (D26). -/

namespace Sys2Proof.Machine

/-- 0B TSY IMPLIED, R280. -/
def execTsy (s : State) : Result :=
  retire s 1 (s.putY s.sph)

/-- 2B TYS IMPLIED, R281. -/
def execTys (s : State) : Result :=
  retire s 1 (s.setSp (wordOf s.y s.spl))

/-- 4B TAZ IMPLIED, R272. -/
def execTaz (s : State) : Result :=
  retire s 1 (s.putZ s.a)

/-- 5B TAB IMPLIED, R276. -/
def execTab (s : State) : Result :=
  retire s 1 (s.setB s.a)

/-- 6B TZA IMPLIED, R275. -/
def execTza (s : State) : Result :=
  retire s 1 (s.putA s.z)

/-- 7B TBA IMPLIED, R277. -/
def execTba (s : State) : Result :=
  retire s 1 (s.putA s.b)

/-- 8A TXA IMPLIED, R273. -/
def execTxa (s : State) : Result :=
  retire s 1 (s.putA s.x)

/-- 98 TYA IMPLIED, R274. -/
def execTya (s : State) : Result :=
  retire s 1 (s.putA s.y)

/-- 9A TXS IMPLIED, R279. -/
def execTxs (s : State) : Result :=
  retire s 1 (s.setSp (wordOf s.sph s.x))

/-- A8 TAY IMPLIED, R271. -/
def execTay (s : State) : Result :=
  retire s 1 (s.putY s.a)

/-- AA TAX IMPLIED, R270. -/
def execTax (s : State) : Result :=
  retire s 1 (s.putX s.a)

/-- BA TSX IMPLIED, R278. -/
def execTsx (s : State) : Result :=
  retire s 1 (s.putX s.spl)

end Sys2Proof.Machine
end

