-- ==== Sys2Proof/Machine/Dispatch.lean ====
section
/-! DEFINITION. The meaning of an instruction: one arm per constructor of `Instr`, each one direct call
of a meaning. `exec i s` is `i` executed in state `s`, whose pc is `pc0`, the address of its opcode. -/

namespace Sys2Proof.Machine

def exec (i : Instr) (s : State) : Host.Outcome State Fault Refusal :=
  match i with
  | .brk sig => Sys2Proof.Machine.execBrk sig s
  | .oraBpXInd d => Sys2Proof.Machine.execOraBpXInd d s
  | .cle => Sys2Proof.Machine.execCle s
  | .see => Sys2Proof.Machine.execSee s
  | .tsbBp d => Sys2Proof.Machine.execTsbBp d s
  | .oraBp d => Sys2Proof.Machine.execOraBp d s
  | .aslBp d => Sys2Proof.Machine.execAslBp d s
  | .rmb0 d => Sys2Proof.Machine.execRmb0 d s
  | .php => Sys2Proof.Machine.execPhp s
  | .oraImm m => Sys2Proof.Machine.execOraImm m s
  | .aslA => Sys2Proof.Machine.execAslA s
  | .tsy => Sys2Proof.Machine.execTsy s
  | .tsbAbs w => Sys2Proof.Machine.execTsbAbs w s
  | .oraAbs w => Sys2Proof.Machine.execOraAbs w s
  | .aslAbs w => Sys2Proof.Machine.execAslAbs w s
  | .bbr0 d r => Sys2Proof.Machine.execBbr0 d r s
  | .bplRel r => Sys2Proof.Machine.execBplRel r s
  | .oraBpIndY d => Sys2Proof.Machine.execOraBpIndY d s
  | .oraBpIndZ d => Sys2Proof.Machine.execOraBpIndZ d s
  | .bplWrel w => Sys2Proof.Machine.execBplWrel w s
  | .trbBp d => Sys2Proof.Machine.execTrbBp d s
  | .oraBpX d => Sys2Proof.Machine.execOraBpX d s
  | .aslBpX d => Sys2Proof.Machine.execAslBpX d s
  | .rmb1 d => Sys2Proof.Machine.execRmb1 d s
  | .clc => Sys2Proof.Machine.execClc s
  | .oraAbsY w => Sys2Proof.Machine.execOraAbsY w s
  | .incA => Sys2Proof.Machine.execIncA s
  | .inz => Sys2Proof.Machine.execInz s
  | .trbAbs w => Sys2Proof.Machine.execTrbAbs w s
  | .oraAbsX w => Sys2Proof.Machine.execOraAbsX w s
  | .aslAbsX w => Sys2Proof.Machine.execAslAbsX w s
  | .bbr1 d r => Sys2Proof.Machine.execBbr1 d r s
  | .jsrAbs w => Sys2Proof.Machine.execJsrAbs w s
  | .andBpXInd d => Sys2Proof.Machine.execAndBpXInd d s
  | .jsrAbsInd w => Sys2Proof.Machine.execJsrAbsInd w s
  | .jsrAbsXInd w => Sys2Proof.Machine.execJsrAbsXInd w s
  | .bitBp d => Sys2Proof.Machine.execBitBp d s
  | .andBp d => Sys2Proof.Machine.execAndBp d s
  | .rolBp d => Sys2Proof.Machine.execRolBp d s
  | .rmb2 d => Sys2Proof.Machine.execRmb2 d s
  | .plp => Sys2Proof.Machine.execPlp s
  | .andImm m => Sys2Proof.Machine.execAndImm m s
  | .rolA => Sys2Proof.Machine.execRolA s
  | .tys => Sys2Proof.Machine.execTys s
  | .bitAbs w => Sys2Proof.Machine.execBitAbs w s
  | .andAbs w => Sys2Proof.Machine.execAndAbs w s
  | .rolAbs w => Sys2Proof.Machine.execRolAbs w s
  | .bbr2 d r => Sys2Proof.Machine.execBbr2 d r s
  | .bmiRel r => Sys2Proof.Machine.execBmiRel r s
  | .andBpIndY d => Sys2Proof.Machine.execAndBpIndY d s
  | .andBpIndZ d => Sys2Proof.Machine.execAndBpIndZ d s
  | .bmiWrel w => Sys2Proof.Machine.execBmiWrel w s
  | .bitBpX d => Sys2Proof.Machine.execBitBpX d s
  | .andBpX d => Sys2Proof.Machine.execAndBpX d s
  | .rolBpX d => Sys2Proof.Machine.execRolBpX d s
  | .rmb3 d => Sys2Proof.Machine.execRmb3 d s
  | .sec => Sys2Proof.Machine.execSec s
  | .andAbsY w => Sys2Proof.Machine.execAndAbsY w s
  | .decA => Sys2Proof.Machine.execDecA s
  | .dez => Sys2Proof.Machine.execDez s
  | .bitAbsX w => Sys2Proof.Machine.execBitAbsX w s
  | .andAbsX w => Sys2Proof.Machine.execAndAbsX w s
  | .rolAbsX w => Sys2Proof.Machine.execRolAbsX w s
  | .bbr3 d r => Sys2Proof.Machine.execBbr3 d r s
  | .rti => Sys2Proof.Machine.execRti s
  | .eorBpXInd d => Sys2Proof.Machine.execEorBpXInd d s
  | .neg => Sys2Proof.Machine.execNeg s
  | .asrA => Sys2Proof.Machine.execAsrA s
  | .asrBp d => Sys2Proof.Machine.execAsrBp d s
  | .eorBp d => Sys2Proof.Machine.execEorBp d s
  | .lsrBp d => Sys2Proof.Machine.execLsrBp d s
  | .rmb4 d => Sys2Proof.Machine.execRmb4 d s
  | .pha => Sys2Proof.Machine.execPha s
  | .eorImm m => Sys2Proof.Machine.execEorImm m s
  | .lsrA => Sys2Proof.Machine.execLsrA s
  | .taz => Sys2Proof.Machine.execTaz s
  | .jmpAbs w => Sys2Proof.Machine.execJmpAbs w s
  | .eorAbs w => Sys2Proof.Machine.execEorAbs w s
  | .lsrAbs w => Sys2Proof.Machine.execLsrAbs w s
  | .bbr4 d r => Sys2Proof.Machine.execBbr4 d r s
  | .bvcRel r => Sys2Proof.Machine.execBvcRel r s
  | .eorBpIndY d => Sys2Proof.Machine.execEorBpIndY d s
  | .eorBpIndZ d => Sys2Proof.Machine.execEorBpIndZ d s
  | .bvcWrel w => Sys2Proof.Machine.execBvcWrel w s
  | .asrBpX d => Sys2Proof.Machine.execAsrBpX d s
  | .eorBpX d => Sys2Proof.Machine.execEorBpX d s
  | .lsrBpX d => Sys2Proof.Machine.execLsrBpX d s
  | .rmb5 d => Sys2Proof.Machine.execRmb5 d s
  | .cli => Sys2Proof.Machine.execCli s
  | .eorAbsY w => Sys2Proof.Machine.execEorAbsY w s
  | .phy => Sys2Proof.Machine.execPhy s
  | .tab => Sys2Proof.Machine.execTab s
  | .aug b1 b2 b3 => Sys2Proof.Machine.execAug b1 b2 b3 s
  | .eorAbsX w => Sys2Proof.Machine.execEorAbsX w s
  | .lsrAbsX w => Sys2Proof.Machine.execLsrAbsX w s
  | .bbr5 d r => Sys2Proof.Machine.execBbr5 d r s
  | .rts => Sys2Proof.Machine.execRts s
  | .adcBpXInd d => Sys2Proof.Machine.execAdcBpXInd d s
  | .rtn n => Sys2Proof.Machine.execRtn n s
  | .bsr w => Sys2Proof.Machine.execBsr w s
  | .stzBp d => Sys2Proof.Machine.execStzBp d s
  | .adcBp d => Sys2Proof.Machine.execAdcBp d s
  | .rorBp d => Sys2Proof.Machine.execRorBp d s
  | .rmb6 d => Sys2Proof.Machine.execRmb6 d s
  | .pla => Sys2Proof.Machine.execPla s
  | .adcImm m => Sys2Proof.Machine.execAdcImm m s
  | .rorA => Sys2Proof.Machine.execRorA s
  | .tza => Sys2Proof.Machine.execTza s
  | .jmpAbsInd w => Sys2Proof.Machine.execJmpAbsInd w s
  | .adcAbs w => Sys2Proof.Machine.execAdcAbs w s
  | .rorAbs w => Sys2Proof.Machine.execRorAbs w s
  | .bbr6 d r => Sys2Proof.Machine.execBbr6 d r s
  | .bvsRel r => Sys2Proof.Machine.execBvsRel r s
  | .adcBpIndY d => Sys2Proof.Machine.execAdcBpIndY d s
  | .adcBpIndZ d => Sys2Proof.Machine.execAdcBpIndZ d s
  | .bvsWrel w => Sys2Proof.Machine.execBvsWrel w s
  | .stzBpX d => Sys2Proof.Machine.execStzBpX d s
  | .adcBpX d => Sys2Proof.Machine.execAdcBpX d s
  | .rorBpX d => Sys2Proof.Machine.execRorBpX d s
  | .rmb7 d => Sys2Proof.Machine.execRmb7 d s
  | .sei => Sys2Proof.Machine.execSei s
  | .adcAbsY w => Sys2Proof.Machine.execAdcAbsY w s
  | .ply => Sys2Proof.Machine.execPly s
  | .tba => Sys2Proof.Machine.execTba s
  | .jmpAbsXInd w => Sys2Proof.Machine.execJmpAbsXInd w s
  | .adcAbsX w => Sys2Proof.Machine.execAdcAbsX w s
  | .rorAbsX w => Sys2Proof.Machine.execRorAbsX w s
  | .bbr7 d r => Sys2Proof.Machine.execBbr7 d r s
  | .bruRel r => Sys2Proof.Machine.execBruRel r s
  | .staBpXInd d => Sys2Proof.Machine.execStaBpXInd d s
  | .staSpIndY d => Sys2Proof.Machine.execStaSpIndY d s
  | .bruWrel w => Sys2Proof.Machine.execBruWrel w s
  | .styBp d => Sys2Proof.Machine.execStyBp d s
  | .staBp d => Sys2Proof.Machine.execStaBp d s
  | .stxBp d => Sys2Proof.Machine.execStxBp d s
  | .smb0 d => Sys2Proof.Machine.execSmb0 d s
  | .dey => Sys2Proof.Machine.execDey s
  | .bitImm m => Sys2Proof.Machine.execBitImm m s
  | .txa => Sys2Proof.Machine.execTxa s
  | .styAbsX w => Sys2Proof.Machine.execStyAbsX w s
  | .styAbs w => Sys2Proof.Machine.execStyAbs w s
  | .staAbs w => Sys2Proof.Machine.execStaAbs w s
  | .stxAbs w => Sys2Proof.Machine.execStxAbs w s
  | .bbs0 d r => Sys2Proof.Machine.execBbs0 d r s
  | .bccRel r => Sys2Proof.Machine.execBccRel r s
  | .staBpIndY d => Sys2Proof.Machine.execStaBpIndY d s
  | .staBpIndZ d => Sys2Proof.Machine.execStaBpIndZ d s
  | .bccWrel w => Sys2Proof.Machine.execBccWrel w s
  | .styBpX d => Sys2Proof.Machine.execStyBpX d s
  | .staBpX d => Sys2Proof.Machine.execStaBpX d s
  | .stxBpY d => Sys2Proof.Machine.execStxBpY d s
  | .smb1 d => Sys2Proof.Machine.execSmb1 d s
  | .tya => Sys2Proof.Machine.execTya s
  | .staAbsY w => Sys2Proof.Machine.execStaAbsY w s
  | .txs => Sys2Proof.Machine.execTxs s
  | .stxAbsY w => Sys2Proof.Machine.execStxAbsY w s
  | .stzAbs w => Sys2Proof.Machine.execStzAbs w s
  | .staAbsX w => Sys2Proof.Machine.execStaAbsX w s
  | .stzAbsX w => Sys2Proof.Machine.execStzAbsX w s
  | .bbs1 d r => Sys2Proof.Machine.execBbs1 d r s
  | .ldyImm m => Sys2Proof.Machine.execLdyImm m s
  | .ldaBpXInd d => Sys2Proof.Machine.execLdaBpXInd d s
  | .ldxImm m => Sys2Proof.Machine.execLdxImm m s
  | .ldzImm m => Sys2Proof.Machine.execLdzImm m s
  | .ldyBp d => Sys2Proof.Machine.execLdyBp d s
  | .ldaBp d => Sys2Proof.Machine.execLdaBp d s
  | .ldxBp d => Sys2Proof.Machine.execLdxBp d s
  | .smb2 d => Sys2Proof.Machine.execSmb2 d s
  | .tay => Sys2Proof.Machine.execTay s
  | .ldaImm m => Sys2Proof.Machine.execLdaImm m s
  | .tax => Sys2Proof.Machine.execTax s
  | .ldzAbs w => Sys2Proof.Machine.execLdzAbs w s
  | .ldyAbs w => Sys2Proof.Machine.execLdyAbs w s
  | .ldaAbs w => Sys2Proof.Machine.execLdaAbs w s
  | .ldxAbs w => Sys2Proof.Machine.execLdxAbs w s
  | .bbs2 d r => Sys2Proof.Machine.execBbs2 d r s
  | .bcsRel r => Sys2Proof.Machine.execBcsRel r s
  | .ldaBpIndY d => Sys2Proof.Machine.execLdaBpIndY d s
  | .ldaBpIndZ d => Sys2Proof.Machine.execLdaBpIndZ d s
  | .bcsWrel w => Sys2Proof.Machine.execBcsWrel w s
  | .ldyBpX d => Sys2Proof.Machine.execLdyBpX d s
  | .ldaBpX d => Sys2Proof.Machine.execLdaBpX d s
  | .ldxBpY d => Sys2Proof.Machine.execLdxBpY d s
  | .smb3 d => Sys2Proof.Machine.execSmb3 d s
  | .clv => Sys2Proof.Machine.execClv s
  | .ldaAbsY w => Sys2Proof.Machine.execLdaAbsY w s
  | .tsx => Sys2Proof.Machine.execTsx s
  | .ldzAbsX w => Sys2Proof.Machine.execLdzAbsX w s
  | .ldyAbsX w => Sys2Proof.Machine.execLdyAbsX w s
  | .ldaAbsX w => Sys2Proof.Machine.execLdaAbsX w s
  | .ldxAbsY w => Sys2Proof.Machine.execLdxAbsY w s
  | .bbs3 d r => Sys2Proof.Machine.execBbs3 d r s
  | .cpyImm m => Sys2Proof.Machine.execCpyImm m s
  | .cmpBpXInd d => Sys2Proof.Machine.execCmpBpXInd d s
  | .cpzImm m => Sys2Proof.Machine.execCpzImm m s
  | .dew d => Sys2Proof.Machine.execDew d s
  | .cpyBp d => Sys2Proof.Machine.execCpyBp d s
  | .cmpBp d => Sys2Proof.Machine.execCmpBp d s
  | .decBp d => Sys2Proof.Machine.execDecBp d s
  | .smb4 d => Sys2Proof.Machine.execSmb4 d s
  | .iny => Sys2Proof.Machine.execIny s
  | .cmpImm m => Sys2Proof.Machine.execCmpImm m s
  | .dex => Sys2Proof.Machine.execDex s
  | .asw w => Sys2Proof.Machine.execAsw w s
  | .cpyAbs w => Sys2Proof.Machine.execCpyAbs w s
  | .cmpAbs w => Sys2Proof.Machine.execCmpAbs w s
  | .decAbs w => Sys2Proof.Machine.execDecAbs w s
  | .bbs4 d r => Sys2Proof.Machine.execBbs4 d r s
  | .bneRel r => Sys2Proof.Machine.execBneRel r s
  | .cmpBpIndY d => Sys2Proof.Machine.execCmpBpIndY d s
  | .cmpBpIndZ d => Sys2Proof.Machine.execCmpBpIndZ d s
  | .bneWrel w => Sys2Proof.Machine.execBneWrel w s
  | .cpzBp d => Sys2Proof.Machine.execCpzBp d s
  | .cmpBpX d => Sys2Proof.Machine.execCmpBpX d s
  | .decBpX d => Sys2Proof.Machine.execDecBpX d s
  | .smb5 d => Sys2Proof.Machine.execSmb5 d s
  | .cld => Sys2Proof.Machine.execCld s
  | .cmpAbsY w => Sys2Proof.Machine.execCmpAbsY w s
  | .phx => Sys2Proof.Machine.execPhx s
  | .phz => Sys2Proof.Machine.execPhz s
  | .cpzAbs w => Sys2Proof.Machine.execCpzAbs w s
  | .cmpAbsX w => Sys2Proof.Machine.execCmpAbsX w s
  | .decAbsX w => Sys2Proof.Machine.execDecAbsX w s
  | .bbs5 d r => Sys2Proof.Machine.execBbs5 d r s
  | .cpxImm m => Sys2Proof.Machine.execCpxImm m s
  | .sbcBpXInd d => Sys2Proof.Machine.execSbcBpXInd d s
  | .ldaSpIndY d => Sys2Proof.Machine.execLdaSpIndY d s
  | .inw d => Sys2Proof.Machine.execInw d s
  | .cpxBp d => Sys2Proof.Machine.execCpxBp d s
  | .sbcBp d => Sys2Proof.Machine.execSbcBp d s
  | .incBp d => Sys2Proof.Machine.execIncBp d s
  | .smb6 d => Sys2Proof.Machine.execSmb6 d s
  | .inx => Sys2Proof.Machine.execInx s
  | .sbcImm m => Sys2Proof.Machine.execSbcImm m s
  | .nop => Sys2Proof.Machine.execNop s
  | .row w => Sys2Proof.Machine.execRow w s
  | .cpxAbs w => Sys2Proof.Machine.execCpxAbs w s
  | .sbcAbs w => Sys2Proof.Machine.execSbcAbs w s
  | .incAbs w => Sys2Proof.Machine.execIncAbs w s
  | .bbs6 d r => Sys2Proof.Machine.execBbs6 d r s
  | .beqRel r => Sys2Proof.Machine.execBeqRel r s
  | .sbcBpIndY d => Sys2Proof.Machine.execSbcBpIndY d s
  | .sbcBpIndZ d => Sys2Proof.Machine.execSbcBpIndZ d s
  | .beqWrel w => Sys2Proof.Machine.execBeqWrel w s
  | .phwImmW w => Sys2Proof.Machine.execPhwImmW w s
  | .sbcBpX d => Sys2Proof.Machine.execSbcBpX d s
  | .incBpX d => Sys2Proof.Machine.execIncBpX d s
  | .smb7 d => Sys2Proof.Machine.execSmb7 d s
  | .sed => Sys2Proof.Machine.execSed s
  | .sbcAbsY w => Sys2Proof.Machine.execSbcAbsY w s
  | .plx => Sys2Proof.Machine.execPlx s
  | .plz => Sys2Proof.Machine.execPlz s
  | .phwAbs w => Sys2Proof.Machine.execPhwAbs w s
  | .sbcAbsX w => Sys2Proof.Machine.execSbcAbsX w s
  | .incAbsX w => Sys2Proof.Machine.execIncAbsX w s
  | .bbs7 d r => Sys2Proof.Machine.execBbs7 d r s

end Sys2Proof.Machine
end

