-- ==== Sys2Proof/Machine/Run.lean ====
section
/-! DEFINITION. Fetching an instruction and one pass of the boundary logic (spec/30_encoding.md R92,
spec/60_exceptions.md R343). -/

namespace Sys2Proof.Machine

/-- The bytes of the instruction at pc, R92: as many as its opcode says, ascending, modulo 65,536. -/
def State.fetchBytes (s : State) : List Byte :=
  let op := s.read .opcode s.pc
  (op :: [s.read .operand1 (s.pc + 1), s.read .operand2 (s.pc + 2),
    s.read .operand3 (s.pc + 3)]).take (opcodeLength op)

/-- The instruction at pc. -/
def State.fetchInstr (s : State) : Instr :=
  decodeOpcode (s.fetchBytes.getD 0 0) (s.fetchBytes.getD 1 0) (s.fetchBytes.getD 2 0)
    (s.fetchBytes.getD 3 0)

/-- Records after an instruction whether it was a single-cycle one (R41, R344) and its bus cycles. -/
def finishInstr (i : Instr) (s : State) : Result → Result
  | .next t => .next ((t.setLastSingle i.singleCycle).recordBus (readCycles i s))
  | .fault f => .fault f
  | .refused r => .refused r

/-- Executes the instruction at pc. -/
def State.runInstr (s : State) : Result := finishInstr s.fetchInstr s (exec s.fetchInstr s)

/-- One pass of R343 in a state whose inputs have been applied: halted (R42), reset sequence,
interrupt sequence, or one instruction. -/
def State.cycle (s : State) : Result :=
  if s.halted then .next (s.setBus s.heldBus)
  else if s.resetDue then .next s.resetSequence
  else match s.pendingInterrupt with
    | some .nmi => .next s.takeNmi
    | some .irq => .next s.takeIrq
    | none => s.runInstr

/-- What other bus masters wrote during a pass and the processor did not overwrite stands in memory
when it ends (R73). -/
def land : Result → Result
  | .next t => .next t.landDma
  | .fault f => .fault f
  | .refused r => .refused r

/-- One pass, abandoned where RES falls inside it (R383). -/
def State.cycleOrAbandon (s : State) : Result :=
  if s.resCut then
    match land (s.setResCut false).cycle with
    | .next t => .next (s.landDma.abandon t)
    | .fault f => .fault f
    | .refused r => .refused r
  else land s.cycle

/-- Places the bytes of an instruction, as the table numbers its bits, at pc and after; bytes past
`nbits` are zero. -/
def placeInstr (s : State) (nbits w : Nat) : Memory :=
  let v := w % 2 ^ nbits
  let put := fun (m : Memory) (k n : Nat) =>
    Memory.write m (s.pc + BitVec.ofNat 16 k).toNat (BitVec.ofNat 8 n)
  put (put (put (put s.mem 0 v) 1 (v / 256)) 2 (v / 65536)) 3 (v / 16777216)

end Sys2Proof.Machine
end

