-- ==== Sys2Proof/Machine/Step.lean ====
section
/-! DEFINITION. One step of the machine: the environment's batch for this boundary is applied, then the
boundary logic runs once (spec/60_exceptions.md R343). -/

namespace Sys2Proof.Machine

/-- One step. -/
def step (s : State) : Host.Outcome State Fault Refusal := s.boundary.cycleOrAbandon

/-- `s` with the instruction of table number `w` placed in memory at pc, and with nothing that would
keep the next step from fetching it: no input due, no pin active, no interrupt or reset pending (all of
which `State.reset` has already). -/
def State.withFetchWord (s : State) (nbits w : Nat) : State :=
  { s with
    mem := placeInstr s nbits w
    nmiLatch := false
    resetDue := false
    resCut := false
    pins := Pins.idle
    inputs := [] }

end Sys2Proof.Machine
end

