-- ==== Sys2Proof/Safety.lean ====
section
/-! DEFINITION. What counts as a good state, a quiet boundary and a safe run, in the terms the
statements use. -/

namespace Sys2Proof.Machine

/-- The edge detector follows the SO pin whenever the clock runs, R40. -/
def State.soFollows (s : State) : Bool := !s.pins.clock || (s.pins.soSampled == s.pins.so)

/-- The invariant every step keeps: memory is in its canonical form, the SO edge detector follows the
pin, and no halt or write of another bus master is pending between steps. -/
def State.Inv (s : State) : Prop :=
  Memory.wf s.mem = true ∧ s.soFollows = true ∧ s.dma = [] ∧ s.stalls = []

/-- Nothing from outside at this boundary: the environment's batch is empty, the processor is not
halted, no reset is due and RES does not fall during the step. -/
def State.quiet (s : State) : Bool :=
  (s.inputs.headD []).isEmpty && !s.halted && !s.resetDue && !s.resCut

/-- A run of `n` steps that stops nowhere. -/
def SafeFor (n : Nat) (s : State) : Prop := ∃ t, Sys2Proof.core.run n s = .next t

/-- The coming step runs an instruction to its end: at its boundary, with the environment's batch
applied, the processor is not halted, nothing is recognised (R343), and RES does not fall in it (R383). -/
def State.completesInstr (s : State) : Bool :=
  !s.boundary.halted && !s.boundary.resetDue && !s.boundary.resCut &&
    s.boundary.pendingInterrupt.isNone

/-- R343 asked at the boundary that comes next: RES is asserted or its sequence due, or an interrupt is
recognisable, IRQ only with RDY high (R347) and the clock running (R364); a latched NMI waits. -/
def State.redirected (s : State) : Bool :=
  !s.boundary.pins.res || s.boundary.resetDue ||
    match s.boundary.pendingInterrupt with
    | some .nmi => true
    | some .irq => s.boundary.pins.rdy && s.boundary.pins.clock
    | none => false

/-- The spec's convention for the end of a run (R396, D23): the step runs an instruction whose successor
pc is its own address, whatever the environment does meanwhile, and no interrupt and no reset is
recognisable then. Not hardware behaviour (log 29). -/
def State.runEnds (s : State) : Bool :=
  match step s with
  | .next t => s.completesInstr && t.pc == s.pc && !t.redirected
  | .fault _ => false
  | .refused _ => false

end Sys2Proof.Machine
end

