-- ==== Sys2Proof/WellFormed.lean ====
section
/-! DEFINITION. Well-formedness. Every operand of an instruction has exactly the width of its field
and every value of every field is legal (R90, R94, R98: "There are no illegal opcodes"), so every
term of `Instr` is well-formed: the check on instructions refuses nothing. What can be ill-formed is
the platform's map (D29): a region must be non-empty and lie inside the 65,536 addresses (R38). -/

namespace Sys2Proof

/-- R98: all 256 opcodes with all operand values are defined instructions. -/
def Instr.wf (_ : Instr) : Bool := true

/-- A region holds at least one address. -/
def Region.nonEmpty (r : Region) : Bool := decide (0 < r.size)

/-- A region ends inside the 64K address space, R38. -/
def Region.fits (r : Region) : Bool := decide (r.base + r.size ≤ 65536)

/-- A region of the map is well-formed. -/
def Region.wf (r : Region) : Bool := r.nonEmpty && r.fits

/-- The platform's map is well-formed. -/
def MemMap.wf (m : MemMap) : Bool := m.all Region.wf

end Sys2Proof
end

