-- ==== Sys2Proof/Certificates/Slice0/Obligations.lean ====
section
/-! DEFINITION. The statements for the provers. `Claims` holds what they are written in: next states as
record updates (whatever a statement does not name is unchanged) and results as arithmetic on numbers.
"rests on log n" marks what the spec calls general knowledge or its own decision. -/

namespace Sys2Proof.Claims

open Sys2Proof.Machine

/-! ## Completion, results and flags -/

/-- The instruction has this opcode, bytes and cycles (R95) and from `s` it completes in `t`. -/
def Completes (i : Instr) (op : Byte) (len cyc : Nat) (s t : State) : Prop :=
  i.opcode = op ∧ i.length = len ∧ i.cycles = cyc ∧ exec i s = .next t

/-- `pc0 +16 len`, R92. -/
def pcAfter (s : State) (len : Nat) : Word := BitVec.ofNat 16 (s.pc.toNat + len)

/-- `SetNZ`, R33. -/
def nz (p : Flags) (v : Byte) : Flags :=
  { p with n := decide (128 ≤ v.toNat), zf := decide (v.toNat = 0) }

/-- `SetNZ16`, R33. -/
def nz16 (p : Flags) (w : Word) : Flags :=
  { p with n := decide (32768 ≤ w.toNat), zf := decide (w.toNat = 0) }

/-- `H:L`. -/
def word (hi lo : Byte) : Word := BitVec.ofNat 16 (256 * hi.toNat + lo.toNat)

/-- `hi(w)`. -/
def high (w : Word) : Byte := BitVec.ofNat 8 (w.toNat / 256)

/-- `lo(w)`. -/
def low (w : Word) : Byte := BitVec.ofNat 8 (w.toNat % 256)

/-! ## Memory and stack -/

/-- The byte memory holds at an address. -/
def byteAt (s : State) (a : Word) : Byte := Memory.read s.mem a.toNat

/-- A byte to store: the access, the address and the byte. -/
abbrev StoredByte := BusSlot × Word × Byte

/-- The write cycle of a stored byte, R63: the byte stands on D0-D7 whatever answers the address. -/
def cycleOf (c : StoredByte) : BusCycle :=
  { slot := c.1, address := c.2.1, write := true, data := some c.2.2, ready := true }

/-- Another master's write stays to come: none of these bytes goes to its address in a cycle from the
one it precedes on. -/
def outlives (cells : List StoredByte) (w : DmaWrite) : Bool :=
  cells.all fun c => w.address != c.2.1 || decide (slotRank c.1 < slotRank w.before)

/-- `u` is `s` after these bytes were stored: an address in RAM (R63) holds its byte, every other address
of the 65,536 reads as before (a device's too, log 9), the write cycles are on the bus record (log 17),
of the other masters' writes those stay that are not overwritten, and all else is as in `s`. -/
def Wrote (s u : State) (cells : List StoredByte) : Prop :=
  u = { s with mem := u.mem, dma := s.dma.filter (outlives cells), bus := s.bus ++ cells.map cycleOf } ∧
  (∀ a : Word, (∀ c ∈ cells, c.2.1 ≠ a) → byteAt u a = byteAt s a) ∧
  (∀ c ∈ cells, byteAt u c.2.1 = if s.answer c.2.1 = .ram then c.2.2 else byteAt s c.2.1)

/-- The instruction completes, in what `next` makes of `s` with these bytes stored. -/
def CompletesStoring (i : Instr) (op : Byte) (len cyc : Nat) (s : State)
    (cells : List StoredByte) (next : State → State) : Prop :=
  ∃ u, Wrote s u cells ∧ Completes i op len cyc s (next u)

/-- SP stepped down `k` times, R28: in byte mode inside the page SPH, in word mode modulo 65,536. -/
def below (s : State) (k : Nat) : Word :=
  if s.p.e then BitVec.ofNat 16 (s.sp.toNat / 256 * 256 + (s.sp.toNat % 256 + 256 - k) % 256)
  else BitVec.ofNat 16 (s.sp.toNat + 65536 - k)

/-- SP stepped up `k` times from a given SP under a given E, R28. -/
def upFrom (e : Bool) (sp : Word) (k : Nat) : Word :=
  if e then BitVec.ofNat 16 (sp.toNat / 256 * 256 + (sp.toNat % 256 + k) % 256)
  else BitVec.ofNat 16 (sp.toNat + k)

/-- SP stepped up `k` times. -/
def above (s : State) (k : Nat) : Word := upFrom s.p.e s.sp k

/-- The word at two addresses of a pointer. -/
def pointerWord (s : State) (loAddr hiAddr : Word) : Word :=
  word (s.read .pointerHi hiAddr) (s.read .pointerLo loAddr)

/-- The address `B:d`, R122. -/
def basePage (s : State) (d : Nat) : Word := BitVec.ofNat 16 (256 * s.b.toNat + d % 256)

/-- `Pimage(b)`, R32: N V E B D I Z C from bit 7 down (log 18). -/
def image (p : Flags) (b : Bool) : Byte :=
  BitVec.ofNat 8 (128 * p.n.toNat + 64 * p.v.toNat + 32 * p.e.toNat + 16 * b.toNat +
    8 * p.d.toNat + 4 * p.i.toNat + 2 * p.zf.toNat + p.c.toNat)

/-- Bit `k` of a byte. -/
def bit (v : Byte) (k : Nat) : Bool := decide (v.toNat / 2 ^ k % 2 = 1)

/-- `LoadP(v)`, R32 (log 18). -/
def loadP (p : Flags) (writesE : Bool) (v : Byte) : Flags where
  n := bit v 7
  v := bit v 6
  e := if writesE then bit v 5 else p.e
  d := bit v 3
  i := bit v 2
  zf := bit v 1
  c := bit v 0

/-! ## The forms of the instructions with a memory operand -/

/-- Every form of ADC with its opcode, bytes and cycles (R95) and its operand byte. -/
def adcForms (s : State) (d : Byte) (m : Byte) (w : Word)
    (form : Instr → Byte → Nat → Nat → Byte → Prop) : Prop :=
  form (.adcImm m) 0x69 2 2 m ∧
  form (.adcBp d) 0x65 2 3 (s.dataAt (eaBp d s)) ∧
  form (.adcBpX d) 0x75 2 3 (s.dataAt (eaBpX d s)) ∧
  form (.adcAbs w) 0x6D 3 4 (s.dataAt (eaAbs w s)) ∧
  form (.adcAbsX w) 0x7D 3 4 (s.dataAt (eaAbsX w s)) ∧
  form (.adcAbsY w) 0x79 3 4 (s.dataAt (eaAbsY w s)) ∧
  form (.adcBpXInd d) 0x61 2 5 (s.dataAt (eaBpXInd d s)) ∧
  form (.adcBpIndY d) 0x71 2 5 (s.dataAt (eaBpIndY d s)) ∧
  form (.adcBpIndZ d) 0x72 2 5 (s.dataAt (eaBpIndZ d s))

/-- Every form of SBC with its opcode, bytes and cycles (R95) and its operand byte. -/
def sbcForms (s : State) (d : Byte) (m : Byte) (w : Word)
    (form : Instr → Byte → Nat → Nat → Byte → Prop) : Prop :=
  form (.sbcImm m) 0xE9 2 2 m ∧
  form (.sbcBp d) 0xE5 2 3 (s.dataAt (eaBp d s)) ∧
  form (.sbcBpX d) 0xF5 2 3 (s.dataAt (eaBpX d s)) ∧
  form (.sbcAbs w) 0xED 3 4 (s.dataAt (eaAbs w s)) ∧
  form (.sbcAbsX w) 0xFD 3 4 (s.dataAt (eaAbsX w s)) ∧
  form (.sbcAbsY w) 0xF9 3 4 (s.dataAt (eaAbsY w s)) ∧
  form (.sbcBpXInd d) 0xE1 2 5 (s.dataAt (eaBpXInd d s)) ∧
  form (.sbcBpIndY d) 0xF1 2 5 (s.dataAt (eaBpIndY d s)) ∧
  form (.sbcBpIndZ d) 0xF2 2 5 (s.dataAt (eaBpIndZ d s))

/-- Every form of AND with its opcode, bytes and cycles (R95) and its operand byte. -/
def andForms (s : State) (d : Byte) (m : Byte) (w : Word)
    (form : Instr → Byte → Nat → Nat → Byte → Prop) : Prop :=
  form (.andImm m) 0x29 2 2 m ∧
  form (.andBp d) 0x25 2 3 (s.dataAt (eaBp d s)) ∧
  form (.andBpX d) 0x35 2 3 (s.dataAt (eaBpX d s)) ∧
  form (.andAbs w) 0x2D 3 4 (s.dataAt (eaAbs w s)) ∧
  form (.andAbsX w) 0x3D 3 4 (s.dataAt (eaAbsX w s)) ∧
  form (.andAbsY w) 0x39 3 4 (s.dataAt (eaAbsY w s)) ∧
  form (.andBpXInd d) 0x21 2 5 (s.dataAt (eaBpXInd d s)) ∧
  form (.andBpIndY d) 0x31 2 5 (s.dataAt (eaBpIndY d s)) ∧
  form (.andBpIndZ d) 0x32 2 5 (s.dataAt (eaBpIndZ d s))

/-- Every form of ORA with its opcode, bytes and cycles (R95) and its operand byte. -/
def oraForms (s : State) (d : Byte) (m : Byte) (w : Word)
    (form : Instr → Byte → Nat → Nat → Byte → Prop) : Prop :=
  form (.oraImm m) 0x09 2 2 m ∧
  form (.oraBp d) 0x05 2 3 (s.dataAt (eaBp d s)) ∧
  form (.oraBpX d) 0x15 2 3 (s.dataAt (eaBpX d s)) ∧
  form (.oraAbs w) 0x0D 3 4 (s.dataAt (eaAbs w s)) ∧
  form (.oraAbsX w) 0x1D 3 4 (s.dataAt (eaAbsX w s)) ∧
  form (.oraAbsY w) 0x19 3 4 (s.dataAt (eaAbsY w s)) ∧
  form (.oraBpXInd d) 0x01 2 5 (s.dataAt (eaBpXInd d s)) ∧
  form (.oraBpIndY d) 0x11 2 5 (s.dataAt (eaBpIndY d s)) ∧
  form (.oraBpIndZ d) 0x12 2 5 (s.dataAt (eaBpIndZ d s))

/-- Every form of EOR with its opcode, bytes and cycles (R95) and its operand byte. -/
def eorForms (s : State) (d : Byte) (m : Byte) (w : Word)
    (form : Instr → Byte → Nat → Nat → Byte → Prop) : Prop :=
  form (.eorImm m) 0x49 2 2 m ∧
  form (.eorBp d) 0x45 2 3 (s.dataAt (eaBp d s)) ∧
  form (.eorBpX d) 0x55 2 3 (s.dataAt (eaBpX d s)) ∧
  form (.eorAbs w) 0x4D 3 4 (s.dataAt (eaAbs w s)) ∧
  form (.eorAbsX w) 0x5D 3 4 (s.dataAt (eaAbsX w s)) ∧
  form (.eorAbsY w) 0x59 3 4 (s.dataAt (eaAbsY w s)) ∧
  form (.eorBpXInd d) 0x41 2 5 (s.dataAt (eaBpXInd d s)) ∧
  form (.eorBpIndY d) 0x51 2 5 (s.dataAt (eaBpIndY d s)) ∧
  form (.eorBpIndZ d) 0x52 2 5 (s.dataAt (eaBpIndZ d s))

/-- Every form of BIT with its opcode, bytes and cycles (R95) and its operand byte. -/
def bitForms (s : State) (d : Byte) (m : Byte) (w : Word)
    (form : Instr → Byte → Nat → Nat → Byte → Prop) : Prop :=
  form (.bitImm m) 0x89 2 2 m ∧
  form (.bitBp d) 0x24 2 4 (s.dataAt (eaBp d s)) ∧
  form (.bitBpX d) 0x34 2 4 (s.dataAt (eaBpX d s)) ∧
  form (.bitAbs w) 0x2C 3 5 (s.dataAt (eaAbs w s)) ∧
  form (.bitAbsX w) 0x3C 3 5 (s.dataAt (eaAbsX w s))

/-- Every form of CMP with its opcode, bytes and cycles (R95) and its operand byte. -/
def cmpForms (s : State) (d : Byte) (m : Byte) (w : Word)
    (form : Instr → Byte → Nat → Nat → Byte → Prop) : Prop :=
  form (.cmpImm m) 0xC9 2 2 m ∧
  form (.cmpBp d) 0xC5 2 3 (s.dataAt (eaBp d s)) ∧
  form (.cmpBpX d) 0xD5 2 3 (s.dataAt (eaBpX d s)) ∧
  form (.cmpAbs w) 0xCD 3 4 (s.dataAt (eaAbs w s)) ∧
  form (.cmpAbsX w) 0xDD 3 4 (s.dataAt (eaAbsX w s)) ∧
  form (.cmpAbsY w) 0xD9 3 4 (s.dataAt (eaAbsY w s)) ∧
  form (.cmpBpXInd d) 0xC1 2 5 (s.dataAt (eaBpXInd d s)) ∧
  form (.cmpBpIndY d) 0xD1 2 5 (s.dataAt (eaBpIndY d s)) ∧
  form (.cmpBpIndZ d) 0xD2 2 5 (s.dataAt (eaBpIndZ d s))

/-- Every form of CPX with its opcode, bytes and cycles (R95) and its operand byte. -/
def cpxForms (s : State) (d : Byte) (m : Byte) (w : Word)
    (form : Instr → Byte → Nat → Nat → Byte → Prop) : Prop :=
  form (.cpxImm m) 0xE0 2 2 m ∧
  form (.cpxBp d) 0xE4 2 3 (s.dataAt (eaBp d s)) ∧
  form (.cpxAbs w) 0xEC 3 4 (s.dataAt (eaAbs w s))

/-- Every form of CPY with its opcode, bytes and cycles (R95) and its operand byte. -/
def cpyForms (s : State) (d : Byte) (m : Byte) (w : Word)
    (form : Instr → Byte → Nat → Nat → Byte → Prop) : Prop :=
  form (.cpyImm m) 0xC0 2 2 m ∧
  form (.cpyBp d) 0xC4 2 3 (s.dataAt (eaBp d s)) ∧
  form (.cpyAbs w) 0xCC 3 4 (s.dataAt (eaAbs w s))

/-- Every form of CPZ with its opcode, bytes and cycles (R95) and its operand byte. -/
def cpzForms (s : State) (d : Byte) (m : Byte) (w : Word)
    (form : Instr → Byte → Nat → Nat → Byte → Prop) : Prop :=
  form (.cpzImm m) 0xC2 2 2 m ∧
  form (.cpzBp d) 0xD4 2 3 (s.dataAt (eaBp d s)) ∧
  form (.cpzAbs w) 0xDC 3 4 (s.dataAt (eaAbs w s))

/-- Every form of LDA with its opcode, bytes and cycles (R95) and its operand byte. -/
def ldaForms (s : State) (d : Byte) (m : Byte) (w : Word)
    (form : Instr → Byte → Nat → Nat → Byte → Prop) : Prop :=
  form (.ldaImm m) 0xA9 2 2 m ∧
  form (.ldaBp d) 0xA5 2 3 (s.dataAt (eaBp d s)) ∧
  form (.ldaBpX d) 0xB5 2 3 (s.dataAt (eaBpX d s)) ∧
  form (.ldaAbs w) 0xAD 3 4 (s.dataAt (eaAbs w s)) ∧
  form (.ldaAbsX w) 0xBD 3 4 (s.dataAt (eaAbsX w s)) ∧
  form (.ldaAbsY w) 0xB9 3 4 (s.dataAt (eaAbsY w s)) ∧
  form (.ldaBpXInd d) 0xA1 2 5 (s.dataAt (eaBpXInd d s)) ∧
  form (.ldaBpIndY d) 0xB1 2 5 (s.dataAt (eaBpIndY d s)) ∧
  form (.ldaBpIndZ d) 0xB2 2 5 (s.dataAt (eaBpIndZ d s)) ∧
  form (.ldaSpIndY d) 0xE2 2 6 (s.dataAt (eaSpIndY d s))

/-- Every form of LDX with its opcode, bytes and cycles (R95) and its operand byte. -/
def ldxForms (s : State) (d : Byte) (m : Byte) (w : Word)
    (form : Instr → Byte → Nat → Nat → Byte → Prop) : Prop :=
  form (.ldxImm m) 0xA2 2 2 m ∧
  form (.ldxBp d) 0xA6 2 3 (s.dataAt (eaBp d s)) ∧
  form (.ldxBpY d) 0xB6 2 3 (s.dataAt (eaBpY d s)) ∧
  form (.ldxAbs w) 0xAE 3 4 (s.dataAt (eaAbs w s)) ∧
  form (.ldxAbsY w) 0xBE 3 4 (s.dataAt (eaAbsY w s))

/-- Every form of LDY with its opcode, bytes and cycles (R95) and its operand byte. -/
def ldyForms (s : State) (d : Byte) (m : Byte) (w : Word)
    (form : Instr → Byte → Nat → Nat → Byte → Prop) : Prop :=
  form (.ldyImm m) 0xA0 2 2 m ∧
  form (.ldyBp d) 0xA4 2 3 (s.dataAt (eaBp d s)) ∧
  form (.ldyBpX d) 0xB4 2 3 (s.dataAt (eaBpX d s)) ∧
  form (.ldyAbs w) 0xAC 3 4 (s.dataAt (eaAbs w s)) ∧
  form (.ldyAbsX w) 0xBC 3 4 (s.dataAt (eaAbsX w s))

/-- Every form of LDZ with its opcode, bytes and cycles (R95) and its operand byte. -/
def ldzForms (s : State) (_d : Byte) (m : Byte) (w : Word)
    (form : Instr → Byte → Nat → Nat → Byte → Prop) : Prop :=
  form (.ldzImm m) 0xA3 2 2 m ∧
  form (.ldzAbs w) 0xAB 3 4 (s.dataAt (eaAbs w s)) ∧
  form (.ldzAbsX w) 0xBB 3 4 (s.dataAt (eaAbsX w s))

/-- Every memory form of STA with its opcode, bytes and cycles (R95) and its effective address. -/
def staForms (s : State) (d : Byte) (_m : Byte) (w : Word)
    (form : Instr → Byte → Nat → Nat → Word → Prop) : Prop :=
  form (.staBp d) 0x85 2 3 (eaBp d s) ∧
  form (.staBpX d) 0x95 2 3 (eaBpX d s) ∧
  form (.staAbs w) 0x8D 3 4 (eaAbs w s) ∧
  form (.staAbsX w) 0x9D 3 4 (eaAbsX w s) ∧
  form (.staAbsY w) 0x99 3 4 (eaAbsY w s) ∧
  form (.staBpXInd d) 0x81 2 5 (eaBpXInd d s) ∧
  form (.staBpIndY d) 0x91 2 5 (eaBpIndY d s) ∧
  form (.staBpIndZ d) 0x92 2 5 (eaBpIndZ d s) ∧
  form (.staSpIndY d) 0x82 2 6 (eaSpIndY d s)

/-- Every memory form of STX with its opcode, bytes and cycles (R95) and its effective address. -/
def stxForms (s : State) (d : Byte) (_m : Byte) (w : Word)
    (form : Instr → Byte → Nat → Nat → Word → Prop) : Prop :=
  form (.stxBp d) 0x86 2 3 (eaBp d s) ∧
  form (.stxBpY d) 0x96 2 3 (eaBpY d s) ∧
  form (.stxAbs w) 0x8E 3 4 (eaAbs w s) ∧
  form (.stxAbsY w) 0x9B 3 4 (eaAbsY w s)

/-- Every memory form of STY with its opcode, bytes and cycles (R95) and its effective address. -/
def styForms (s : State) (d : Byte) (_m : Byte) (w : Word)
    (form : Instr → Byte → Nat → Nat → Word → Prop) : Prop :=
  form (.styBp d) 0x84 2 3 (eaBp d s) ∧
  form (.styBpX d) 0x94 2 3 (eaBpX d s) ∧
  form (.styAbs w) 0x8C 3 4 (eaAbs w s) ∧
  form (.styAbsX w) 0x8B 3 4 (eaAbsX w s)

/-- Every memory form of STZ with its opcode, bytes and cycles (R95) and its effective address. -/
def stzForms (s : State) (d : Byte) (_m : Byte) (w : Word)
    (form : Instr → Byte → Nat → Nat → Word → Prop) : Prop :=
  form (.stzBp d) 0x64 2 3 (eaBp d s) ∧
  form (.stzBpX d) 0x74 2 3 (eaBpX d s) ∧
  form (.stzAbs w) 0x9C 3 4 (eaAbs w s) ∧
  form (.stzAbsX w) 0x9E 3 4 (eaAbsX w s)

/-- Every memory form of INC with its opcode, bytes and cycles (R95) and its effective address. -/
def incForms (s : State) (d : Byte) (_m : Byte) (w : Word)
    (form : Instr → Byte → Nat → Nat → Word → Prop) : Prop :=
  form (.incBp d) 0xE6 2 4 (eaBp d s) ∧
  form (.incBpX d) 0xF6 2 4 (eaBpX d s) ∧
  form (.incAbs w) 0xEE 3 5 (eaAbs w s) ∧
  form (.incAbsX w) 0xFE 3 5 (eaAbsX w s)

/-- Every memory form of DEC with its opcode, bytes and cycles (R95) and its effective address. -/
def decForms (s : State) (d : Byte) (_m : Byte) (w : Word)
    (form : Instr → Byte → Nat → Nat → Word → Prop) : Prop :=
  form (.decBp d) 0xC6 2 4 (eaBp d s) ∧
  form (.decBpX d) 0xD6 2 4 (eaBpX d s) ∧
  form (.decAbs w) 0xCE 3 5 (eaAbs w s) ∧
  form (.decAbsX w) 0xDE 3 5 (eaAbsX w s)

/-- Every memory form of ASL with its opcode, bytes and cycles (R95) and its effective address. -/
def aslForms (s : State) (d : Byte) (_m : Byte) (w : Word)
    (form : Instr → Byte → Nat → Nat → Word → Prop) : Prop :=
  form (.aslBp d) 0x06 2 4 (eaBp d s) ∧
  form (.aslBpX d) 0x16 2 4 (eaBpX d s) ∧
  form (.aslAbs w) 0x0E 3 5 (eaAbs w s) ∧
  form (.aslAbsX w) 0x1E 3 5 (eaAbsX w s)

/-- Every memory form of LSR with its opcode, bytes and cycles (R95) and its effective address. -/
def lsrForms (s : State) (d : Byte) (_m : Byte) (w : Word)
    (form : Instr → Byte → Nat → Nat → Word → Prop) : Prop :=
  form (.lsrBp d) 0x46 2 4 (eaBp d s) ∧
  form (.lsrBpX d) 0x56 2 4 (eaBpX d s) ∧
  form (.lsrAbs w) 0x4E 3 5 (eaAbs w s) ∧
  form (.lsrAbsX w) 0x5E 3 5 (eaAbsX w s)

/-- Every memory form of ASR with its opcode, bytes and cycles (R95) and its effective address. -/
def asrForms (s : State) (d : Byte) (_m : Byte) (_w : Word)
    (form : Instr → Byte → Nat → Nat → Word → Prop) : Prop :=
  form (.asrBp d) 0x44 2 4 (eaBp d s) ∧
  form (.asrBpX d) 0x54 2 4 (eaBpX d s)

/-- Every memory form of ROL with its opcode, bytes and cycles (R95) and its effective address. -/
def rolForms (s : State) (d : Byte) (_m : Byte) (w : Word)
    (form : Instr → Byte → Nat → Nat → Word → Prop) : Prop :=
  form (.rolBp d) 0x26 2 4 (eaBp d s) ∧
  form (.rolBpX d) 0x36 2 4 (eaBpX d s) ∧
  form (.rolAbs w) 0x2E 3 5 (eaAbs w s) ∧
  form (.rolAbsX w) 0x3E 3 5 (eaAbsX w s)

/-- Every memory form of ROR with its opcode, bytes and cycles (R95) and its effective address. -/
def rorForms (s : State) (d : Byte) (_m : Byte) (w : Word)
    (form : Instr → Byte → Nat → Nat → Word → Prop) : Prop :=
  form (.rorBp d) 0x66 2 4 (eaBp d s) ∧
  form (.rorBpX d) 0x76 2 4 (eaBpX d s) ∧
  form (.rorAbs w) 0x6E 3 5 (eaAbs w s) ∧
  form (.rorAbsX w) 0x7E 3 5 (eaAbsX w s)

/-- Every memory form of TSB with its opcode, bytes and cycles (R95) and its effective address. -/
def tsbForms (s : State) (d : Byte) (_m : Byte) (w : Word)
    (form : Instr → Byte → Nat → Nat → Word → Prop) : Prop :=
  form (.tsbBp d) 0x04 2 4 (eaBp d s) ∧
  form (.tsbAbs w) 0x0C 3 5 (eaAbs w s)

/-- Every memory form of TRB with its opcode, bytes and cycles (R95) and its effective address. -/
def trbForms (s : State) (d : Byte) (_m : Byte) (w : Word)
    (form : Instr → Byte → Nat → Nat → Word → Prop) : Prop :=
  form (.trbBp d) 0x14 2 4 (eaBp d s) ∧
  form (.trbAbs w) 0x1C 3 5 (eaAbs w s)

/-- RMB0 to RMB7: the bit, then as above. -/
def rmbForms (s : State) (d : Byte)
    (form : Nat → Instr → Byte → Nat → Nat → Word → Prop) : Prop :=
  form 0 (.rmb0 d) 0x07 2 4 (eaBp d s) ∧
  form 1 (.rmb1 d) 0x17 2 4 (eaBp d s) ∧
  form 2 (.rmb2 d) 0x27 2 4 (eaBp d s) ∧
  form 3 (.rmb3 d) 0x37 2 4 (eaBp d s) ∧
  form 4 (.rmb4 d) 0x47 2 4 (eaBp d s) ∧
  form 5 (.rmb5 d) 0x57 2 4 (eaBp d s) ∧
  form 6 (.rmb6 d) 0x67 2 4 (eaBp d s) ∧
  form 7 (.rmb7 d) 0x77 2 4 (eaBp d s)

/-- SMB0 to SMB7: the bit, then as above. -/
def smbForms (s : State) (d : Byte)
    (form : Nat → Instr → Byte → Nat → Nat → Word → Prop) : Prop :=
  form 0 (.smb0 d) 0x87 2 4 (eaBp d s) ∧
  form 1 (.smb1 d) 0x97 2 4 (eaBp d s) ∧
  form 2 (.smb2 d) 0xA7 2 4 (eaBp d s) ∧
  form 3 (.smb3 d) 0xB7 2 4 (eaBp d s) ∧
  form 4 (.smb4 d) 0xC7 2 4 (eaBp d s) ∧
  form 5 (.smb5 d) 0xD7 2 4 (eaBp d s) ∧
  form 6 (.smb6 d) 0xE7 2 4 (eaBp d s) ∧
  form 7 (.smb7 d) 0xF7 2 4 (eaBp d s)

/-- BBR0 to BBR7: the bit, the instruction, its opcode, bytes and cycles. -/
def bbrForms (d r : Byte) (form : Nat → Instr → Byte → Nat → Nat → Prop) : Prop :=
  form 0 (.bbr0 d r) 0x0F 3 4 ∧
  form 1 (.bbr1 d r) 0x1F 3 4 ∧
  form 2 (.bbr2 d r) 0x2F 3 4 ∧
  form 3 (.bbr3 d r) 0x3F 3 4 ∧
  form 4 (.bbr4 d r) 0x4F 3 4 ∧
  form 5 (.bbr5 d r) 0x5F 3 4 ∧
  form 6 (.bbr6 d r) 0x6F 3 4 ∧
  form 7 (.bbr7 d r) 0x7F 3 4

/-- BBS0 to BBS7: the bit, the instruction, its opcode, bytes and cycles. -/
def bbsForms (d r : Byte) (form : Nat → Instr → Byte → Nat → Nat → Prop) : Prop :=
  form 0 (.bbs0 d r) 0x8F 3 4 ∧
  form 1 (.bbs1 d r) 0x9F 3 4 ∧
  form 2 (.bbs2 d r) 0xAF 3 4 ∧
  form 3 (.bbs3 d r) 0xBF 3 4 ∧
  form 4 (.bbs4 d r) 0xCF 3 4 ∧
  form 5 (.bbs5 d r) 0xDF 3 4 ∧
  form 6 (.bbs6 d r) 0xEF 3 4 ∧
  form 7 (.bbs7 d r) 0xFF 3 4

/-! ## Next states -/

/-- R191, R194 with D clear. -/
def added (s : State) (len : Nat) (m : Byte) : State :=
  let sum := s.a.toNat + m.toNat + s.p.c.toNat
  let signed := s.a.toInt + m.toInt + s.p.c.toNat
  let r : Byte := BitVec.ofNat 8 sum
  { s with
    a := r
    p := { nz s.p r with
      c := decide (256 ≤ sum)
      v := decide (signed < -128 ∨ 127 < signed) }
    pc := pcAfter s len }

/-- R195 with D clear: the borrow is the complement of the carry. -/
def subtracted (s : State) (len : Nat) (m : Byte) : State :=
  let diff : Int := (s.a.toNat : Int) - m.toNat - (1 - s.p.c.toNat)
  let signed := s.a.toInt - m.toInt - (1 - s.p.c.toNat)
  let r : Byte := BitVec.ofInt 8 diff
  { s with
    a := r
    p := { nz s.p r with
      c := decide (0 ≤ diff)
      v := decide (signed < -128 ∨ 127 < signed) }
    pc := pcAfter s len }

/-- The packed decimal byte of two digits. -/
def digits (tens units : Nat) : Byte := BitVec.ofNat 8 (16 * tens + units)

/-- R192: the decimal sum `n`, V open. -/
def decimalAdded (s : State) (len n : Nat) (v : Bool) : State :=
  { s with
    a := digits (n / 10 % 10) (n % 10)
    p := { nz s.p (digits (n / 10 % 10) (n % 10)) with c := decide (100 ≤ n), v := v }
    pc := pcAfter s len }

/-- R193: the decimal difference `n`, V open. -/
def decimalSubtracted (s : State) (len : Nat) (n : Int) (v : Bool) : State :=
  let r := digits ((n % 100).toNat / 10) ((n % 100).toNat % 10)
  { s with
    a := r
    p := { nz s.p r with c := decide (0 ≤ n), v := v }
    pc := pcAfter s len }

/-- A digit of one of the two bytes exceeds 9. -/
def SomeDigitInvalid (a m : Byte) : Prop :=
  9 < a.toNat % 16 ∨ 9 < a.toNat / 16 ∨ 9 < m.toNat % 16 ∨ 9 < m.toNat / 16

/-- `Compare(r, m)`, R200. -/
def compared (s : State) (len : Nat) (r m : Byte) : State :=
  { s with
    p := { s.p with
      n := decide (128 ≤ (r.toNat + 256 - m.toNat) % 256)
      zf := decide (r.toNat = m.toNat)
      c := decide (m.toNat ≤ r.toNat) }
    pc := pcAfter s len }

/-- R215: result and carry out of ASL. -/
def asl (_ : Bool) (m : Byte) : Byte × Bool :=
  (BitVec.ofNat 8 (2 * m.toNat), decide (128 ≤ m.toNat))
/-- R216. -/
def lsr (_ : Bool) (m : Byte) : Byte × Bool := (BitVec.ofNat 8 (m.toNat / 2), bit m 0)
/-- R217. -/
def asr (_ : Bool) (m : Byte) : Byte × Bool :=
  (BitVec.ofNat 8 (m.toNat / 2 + if 128 ≤ m.toNat then 128 else 0), bit m 0)
/-- R218. -/
def rol (c : Bool) (m : Byte) : Byte × Bool :=
  (BitVec.ofNat 8 (2 * m.toNat + c.toNat), decide (128 ≤ m.toNat))
/-- R219. -/
def ror (c : Bool) (m : Byte) : Byte × Bool :=
  (BitVec.ofNat 8 (m.toNat / 2 + 128 * c.toNat), bit m 0)

/-- A shift or rotate of the accumulator. -/
def shiftedA (s : State) (f : Bool → Byte → Byte × Bool) : State :=
  { s with
    a := (f s.p.c s.a).1
    p := { nz s.p (f s.p.c s.a).1 with c := (f s.p.c s.a).2 }
    pc := pcAfter s 1 }

/-- A shift or rotate of a byte in memory. -/
def ShiftsMemory (f : Bool → Byte → Byte × Bool) (s : State) (i : Instr) (op : Byte)
    (len cyc : Nat) (ea : Word) : Prop :=
  CompletesStoring i op len cyc s [(.writeLo, ea, (f s.p.c (s.dataAt ea)).1)] fun u =>
    { u with
      p := { nz s.p (f s.p.c (s.dataAt ea)).1 with c := (f s.p.c (s.dataAt ea)).2 }
      pc := pcAfter s len }

/-- The word operand at two addresses, R139. -/
def operandWord (s : State) (loAddr hiAddr : Word) : Word :=
  word (s.read .dataHi hiAddr) (s.read .dataLo loAddr)

/-- The word PHW ABS pushes, R139, read before its pushes. -/
def sourceOperand (s : State) (w : Word) : Word :=
  word (s.read .sourceHi (w + 1)) (s.read .sourceLo w)

/-- A word instruction that writes its result back, low byte at the lower address (log 22). -/
def WritesWord (i : Instr) (op : Byte) (len cyc : Nat) (s : State) (loAddr hiAddr result : Word)
    (p : Flags) : Prop :=
  CompletesStoring i op len cyc s
    [(.writeLo, loAddr, low result), (.writeHi, hiAddr, high result)] fun u =>
    { u with p := p, pc := pcAfter s len }

/-- The REL form of a branch, R134, R150. -/
def branchRel (s : State) (r : Byte) (taken : Bool) : State :=
  { s with pc := if taken then BitVec.ofInt 16 (s.pc.toNat + 2 + r.toInt) else pcAfter s 2 }

/-- The W REL form, R135, R150. -/
def branchWord (s : State) (w : Word) (taken : Bool) : State :=
  { s with pc := if taken then BitVec.ofInt 16 (s.pc.toNat + 2 + w.toInt) else pcAfter s 3 }

/-- The two bytes `CallPush(pc0 +16 2)` stores, R150 (log 20). -/
def returnCells (s : State) : List StoredByte :=
  [(.push1, s.sp, high (pcAfter s 2)), (.push2, below s 1, low (pcAfter s 2))]

/-- A call: the return address stored, SP two lower, pc at the target, which may be read after the
pushes. -/
def Calls (i : Instr) (op : Byte) (len cyc : Nat) (s : State) (target : State → Word) : Prop :=
  CompletesStoring i op len cyc s (returnCells s) fun u =>
    { u with sp := below s 2, pc := target u }

/-- The three bytes of trap entry, R352. -/
def trapCells (s : State) (ret : Word) (b : Bool) : List StoredByte :=
  [(.push1, s.sp, high ret), (.push2, below s 1, low ret), (.push3, below s 2, image s.p b)]

/-- What trap entry from `s` makes of `u`, `s` with the three bytes stored, R352. -/
def trapped (s u : State) (vector : Word) (d : Bool) : State :=
  { u with
    sp := below s 3
    p := { s.p with i := true, d := d }
    pc := word (u.read .vectorHi (vector + 1)) (u.read .vectorLo vector) }

/-- D after trap entry as `TRAP_CLEARS_D` says, D4. -/
def TrapD (s : State) (d : Bool) : Prop :=
  (s.cfg.trapClearsD = .cleared → d = false) ∧ (s.cfg.trapClearsD = .unchanged → d = s.p.d)

/-- The addresses an instruction that begins in `s` stores to, in the order of its write cycles (R67,
log 17): what its meaning uses for them. An instruction that is not listed stores nothing. -/
def writeAddresses (i : Instr) (s : State) : List Word :=
  match i with
  | .brk _ => [s.sp, below s 1, below s 2]
  | .tsbBp d | .aslBp d | .rmb0 d | .trbBp d | .rmb1 d | .rolBp d | .rmb2 d | .rmb3 d
    | .asrBp d | .lsrBp d | .rmb4 d | .rmb5 d | .stzBp d | .rorBp d | .rmb6 d | .rmb7 d
    | .styBp d | .staBp d | .stxBp d | .smb0 d | .smb1 d | .smb2 d | .smb3 d | .decBp d
    | .smb4 d | .smb5 d | .incBp d | .smb6 d | .smb7 d => [eaBp d s]
  | .php | .pha | .phy | .phx | .phz => [s.sp]
  | .tsbAbs w | .aslAbs w | .trbAbs w | .rolAbs w | .lsrAbs w | .rorAbs w | .styAbs w
    | .staAbs w | .stxAbs w | .stzAbs w | .decAbs w | .incAbs w => [eaAbs w s]
  | .aslBpX d | .rolBpX d | .asrBpX d | .lsrBpX d | .stzBpX d | .rorBpX d | .styBpX d
    | .staBpX d | .decBpX d | .incBpX d => [eaBpX d s]
  | .aslAbsX w | .rolAbsX w | .lsrAbsX w | .rorAbsX w | .styAbsX w | .staAbsX w | .stzAbsX w
    | .decAbsX w | .incAbsX w => [eaAbsX w s]
  | .jsrAbs _ | .jsrAbsInd _ | .jsrAbsXInd _ | .bsr _ | .phwImmW _ | .phwAbs _ => [s.sp, below s 1]
  | .staBpXInd d => [eaBpXInd d s]
  | .staSpIndY d => [eaSpIndY d s]
  | .staBpIndY d => [eaBpIndY d s]
  | .staBpIndZ d => [eaBpIndZ d s]
  | .stxBpY d => [eaBpY d s]
  | .staAbsY w | .stxAbsY w => [eaAbsY w s]
  | .dew d | .inw d => [eaBp d s, eaBpNext d s]
  | .asw w | .row w => [w, w + 1]
  | _ => []

/-- The addresses the next `n` pushes store to are RAM. -/
def StackInRam (s : State) (n : Nat) : Prop := ∀ k < n, s.answer (below s k) = .ram

/-- The state in which a step runs when the environment does nothing at its boundary. -/
def atBoundary (s : State) : State :=
  { s with inputs := s.inputs.tail, tick := s.tick + 1, bus := [], dma := [], stalls := [] }

/-- What the bytes from pc up decode to, each read in its own fetch cycle. -/
def fetched (s : State) : Except DecodeError (Instr × List Byte) :=
  decode [s.read .opcode s.pc, s.read .operand1 (s.pc + 1), s.read .operand2 (s.pc + 2),
    s.read .operand3 (s.pc + 3)]

/-- No interrupt can be recognised in `s`, R343. -/
def NoInterrupt (s : State) : Prop :=
  s.lastSingle = true ∨ (s.nmiLatch = false ∧ (s.pins.irq = true ∨ s.p.i = true))

/-- The input moves the IRQ or the NMI pin. -/
def movesInterruptPin : Input → Bool
  | .irq _ => true
  | .nmi _ => true
  | .so _ => false
  | .rdy _ => false
  | .res _ => false
  | .resCut => false
  | .clock _ => false
  | .dma _ _ => false
  | .halt _ _ => false

/-- Two opcodes stand in RAM at pc and after it. -/
def holdsOpcodes (s : State) (first second : Byte) : Prop :=
  s.answer s.pc = .ram ∧ s.answer (s.pc + 1) = .ram ∧ byteAt s s.pc = first ∧
    byteAt s (s.pc + 1) = second

end Sys2Proof.Claims

section

open Sys2Proof Sys2Proof.Machine Sys2Proof.Claims

/-- For every instruction with every operand value and every bytes after it: decoding the encoded
bytes followed by those bytes gives the instruction and exactly those bytes; the encoding has as
many bytes as R95 prints. -/
def Obligations.DecodeOfEncode : Prop :=
  ∀ (i : Instr) (rest : List Byte), Instr.wf i = true →
    decode (encode i ++ rest) = .ok (i, rest) ∧ (encode i).length = i.length

/-- Any list of at least four bytes decodes to an instruction, and the bytes consumed are exactly the
encoding of that instruction. -/
def Obligations.EncodeOfDecode : Prop :=
  ∀ bytes : List Byte, 4 ≤ bytes.length →
    ∃ i rest, decode bytes = .ok (i, rest) ∧ encode i ++ rest = bytes

/-- Eleven instructions, one or more of each family, written bit by bit from the cells of the opcode
matrix (R95) and the formats (R91), decode to the instruction they stand for. -/
def Obligations.SampleWordsDecode : Prop :=
  decodeTableWord 16 0x7FA9 = some (.ldaImm 0x7F) ∧
  decodeTableWord 24 0x12348D = some (.staAbs 0x1234) ∧
  decodeTableWord 16 0x0882 = some (.staSpIndY 0x08) ∧
  decodeTableWord 24 0x1234F4 = some (.phwImmW 0x1234) ∧
  decodeTableWord 8 0x2B = some .tys ∧
  decodeTableWord 16 0x20F2 = some (.sbcBpIndZ 0x20) ∧
  decodeTableWord 24 0x4000EB = some (.row 0x4000) ∧
  decodeTableWord 24 0xFD10FF = some (.bbs7 0x10 0xFD) ∧
  decodeTableWord 24 0x0FFE83 = some (.bruWrel 0x0FFE) ∧
  decodeTableWord 16 0x0462 = some (.rtn 0x04) ∧
  decodeTableWord 32 0x3322115C = some (.aug 0x11 0x22 0x33)

/-- For every instruction: it is single-cycle exactly when its opcode is one of the thirty listed,
CLI, NEG A and ASR A not among them; and every other opcode takes 2 to 7 cycles. Derived: that CLI
is not single-cycle is the spec's choice between two printings (C5, log 24). -/
def Obligations.SingleCycleOpcodes : Prop :=
  ∀ i : Instr,
    (i.singleCycle = true ↔ i.opcode ∈ ([
      0x0A, 0x2A, 0x4A, 0x6A, 0x1A, 0x3A, 0xE8, 0xC8, 0x1B, 0xCA, 0x88, 0x3B, 0xAA, 0xA8, 0x4B,
      0x8A, 0x98, 0x6B, 0x5B, 0x7B, 0xBA, 0x9A, 0x0B, 0x2B, 0x18, 0x38, 0xD8, 0xF8, 0xB8,
      0xEA] : List Byte)) ∧
    (i.singleCycle = true → i.cycles = 1) ∧
    (i.singleCycle = false → 2 ≤ i.cycles ∧ i.cycles ≤ 7) ∧
    Instr.singleCycle .cli = false ∧ Instr.cycles .neg = 2 ∧ Instr.cycles .asrA = 2

/-- The reads and the writes of every instruction, put in one order, begin with the fetch of its bytes
at ascending addresses from pc; only the first cycle has SYNC; each access comes once and in the
order of the slots; each is driven with data exactly if it is a write; and the accesses are not
more than the machine cycles, except for ROW, whose seven accesses the printed six cycles cannot
hold. Derived: the order of accesses is the spec's decision D10, and that no other cycle is
recorded D11 (log 17). -/
def Obligations.BusCyclesStartWithOpcodeFetch : Prop :=
  ∀ (i : Instr) (s t : State), s.bus = [] → exec i s = .next t →
    let cycles := mergeCycles (readCycles i s) t.bus
    cycles.take i.length = (List.range i.length).map (fun k =>
      { slot := [BusSlot.opcode, .operand1, .operand2, .operand3].getD k .opcode
        address := BitVec.ofNat 16 (s.pc.toNat + k)
        write := false
        data := none
        ready := true }) ∧
    (∀ c ∈ cycles.drop 1, c.sync = false) ∧
    cycles.Pairwise (fun c e => slotRank c.slot < slotRank e.slot) ∧
    (∀ c ∈ cycles, c.ready = true ∧ c.data.isSome = c.write) ∧
    (i.mnemonic ≠ "ROW" → cycles.length ≤ i.cycles)

/-- BP is 256*B + d; BP,X and BP,Y drop the carry of the low byte; ABS,X and ABS,Y carry and wrap at
65,536; REL adds the signed offset to pc0 + 2, W REL to pc0 + 2, BP REL to pc0 + 3, modulo 65,536.
Derived: the wrap at 65,536 is the spec's decision D13 and the wrap of the second byte of a base-
page word D12 (log 22). -/
def Obligations.DirectAddresses : Prop :=
  ∀ (d r : Byte) (w : Word) (s : State),
    (eaBp d s).toNat = 256 * s.b.toNat + d.toNat ∧
    (eaBpNext d s).toNat = 256 * s.b.toNat + (d.toNat + 1) % 256 ∧
    (eaBpX d s).toNat = 256 * s.b.toNat + (d.toNat + s.x.toNat) % 256 ∧
    (eaBpY d s).toNat = 256 * s.b.toNat + (d.toNat + s.y.toNat) % 256 ∧
    eaAbs w s = w ∧
    (eaAbsX w s).toNat = (w.toNat + s.x.toNat) % 65536 ∧
    (eaAbsY w s).toNat = (w.toNat + s.y.toNat) % 65536 ∧
    ((targetRel r s).toNat : Int) = (s.pc.toNat + 2 + r.toInt) % 65536 ∧
    ((targetWrel w s).toNat : Int) = (s.pc.toNat + 2 + w.toInt) % 65536 ∧
    ((targetBpRel r s).toNat : Int) = (s.pc.toNat + 3 + r.toInt) % 65536

/-- Each indirect mode reads its two pointer bytes at the addresses the mode gives, low byte first,
and adds the index afterwards (or before, for (BP,X) and (ABS,X)); (D,SP),Y reads inside the stack
page in byte mode where STACK_REL_PAGE_WRAP holds and from SP + d otherwise. Derived: the wraps
are the spec's decisions D9, D12, D13, D27 (log 22, log 26). -/
def Obligations.PointerAddresses : Prop :=
  ∀ (d : Byte) (w : Word) (s : State),
    eaBpXInd d s = pointerWord s (basePage s (d.toNat + s.x.toNat))
      (basePage s (d.toNat + s.x.toNat + 1)) ∧
    (eaBpIndY d s).toNat =
      ((pointerWord s (basePage s d.toNat) (basePage s (d.toNat + 1))).toNat + s.y.toNat) % 65536 ∧
    (eaBpIndZ d s).toNat =
      ((pointerWord s (basePage s d.toNat) (basePage s (d.toNat + 1))).toNat + s.z.toNat) % 65536 ∧
    (s.p.e = true → s.cfg.stackRelPageWrap = true → (eaSpIndY d s).toNat =
      ((pointerWord s (upFrom true s.sp d.toNat) (upFrom true s.sp (d.toNat + 1))).toNat +
        s.y.toNat) % 65536) ∧
    (s.p.e = false ∨ s.cfg.stackRelPageWrap = false → (eaSpIndY d s).toNat =
      ((pointerWord s (upFrom false s.sp d.toNat) (upFrom false s.sp (d.toNat + 1))).toNat +
        s.y.toNat) % 65536) ∧
    targetAbsInd w s = pointerWord s w (BitVec.ofNat 16 (w.toNat + 1)) ∧
    targetAbsXInd w s = pointerWord s (BitVec.ofNat 16 (w.toNat + s.x.toNat))
      (BitVec.ofNat 16 (w.toNat + s.x.toNat + 1))

/-- In byte mode a step moves SPL modulo 256 and leaves SPH; in word mode it moves all 16 bits;
nothing else changes. A push writes at SP and then steps down; a pull reads at the address one
step up. E is read at the step. Derived: the wrap inside the page in byte mode is R27's own
inference, the wrap of the 16-bit SP decision D13 (log 22). -/
def Obligations.StackPointerSteps : Prop :=
  ∀ (v : Byte) (slot : BusSlot) (s : State),
    (s.p.e = true → s.decSp.sph = s.sph ∧ s.decSp.spl.toNat = (s.spl.toNat + 255) % 256 ∧
      s.incSp.sph = s.sph ∧ s.incSp.spl.toNat = (s.spl.toNat + 1) % 256) ∧
    (s.p.e = false → s.decSp.sp.toNat = (s.sp.toNat + 65535) % 65536 ∧
      s.incSp.sp.toNat = (s.sp.toNat + 1) % 65536) ∧
    (∃ a, s.decSp = { s with sp := a }) ∧ (∃ a, s.incSp = { s with sp := a }) ∧
    s.push slot v = (s.write slot s.sp v).decSp ∧
    s.pulled slot = s.incSp.read slot s.incSp.sp

/-- On a memory in canonical form a write puts its byte at a RAM address, changes no other address,
changes no memory where RAM does not answer, and keeps the canonical form; whatever answers, the
write cycle with its byte is put on the bus record. A read of ROM gives the byte held; a read of
RAM in a given cycle gives the byte held or the last that another master put there before that
cycle. That nothing but memory, the bus record and what other masters have still to write changes
is part of it. Derived: that a device address keeps memory as it is is the model's choice (log 9,
DESIGN CHOICE), the record log 17. -/
def Obligations.MemoryReadsAndWrites : Prop :=
  ∀ (a b : Word) (v : Byte) (slot : BusSlot) (s : State), Memory.wf s.mem = true →
    (s.answer a = .ram → (s.write slot a v).read slot a = v) ∧
    (a ≠ b → (s.write slot a v).read slot b = s.read slot b) ∧
    (s.answer a ≠ .ram → (s.write slot a v).mem = s.mem) ∧
    Memory.wf (s.write slot a v).mem = true ∧
    Wrote s (s.write slot a v) [(slot, a, v)] ∧
    (s.answer a = .rom → s.read slot a = byteAt s a) ∧
    (s.answer a = .ram → s.dma = [] → s.read slot a = byteAt s a) ∧
    ∀ (before : BusSlot) (w : Byte) (earlier : List DmaWrite), s.answer a = .ram →
      s.dma = earlier ++ [{ before := before, address := a, value := w }] →
      s.read slot a = if slotRank before ≤ slotRank slot then w
        else ({ s with dma := earlier } : State).read slot a

/-- At a quiet boundary where no interrupt can be recognised, if the bytes from pc up decode to i and
exec of i answers u, the step answers u with the recognition window (single-cycle or not) and the
bus record set, its cycles being the reads and writes in one order. Before exec the step takes the
empty batch off the schedule and advances the counter of the free values. The same after any batch
of inputs that leaves the processor running with no interrupt or reset to take: then the cycles
before which RDY went low are preceded by held cycles, and what other masters wrote stands in
memory at the end. Derived: the recognition conditions rest on log 24, the record on log 17. -/
def Obligations.StepRunsDecodedInstruction : Prop :=
  ∀ (i : Instr) (rest : List Byte) (s u : State), Instr.wf i = true →
    (s.quiet = true → NoInterrupt s → fetched (atBoundary s) = .ok (i, rest) →
      exec i (atBoundary s) = .next u →
      step s = .next { u with
        lastSingle := i.singleCycle
        bus := mergeCycles (readCycles i (atBoundary s)) u.bus }) ∧
    (s.boundary.halted = false → s.boundary.resetDue = false → s.boundary.resCut = false →
      NoInterrupt s.boundary → fetched s.boundary = .ok (i, rest) →
      exec i s.boundary = .next u →
      step s = .next ({ u with
        lastSingle := i.singleCycle
        bus := withStalls u.stalls (mergeCycles (readCycles i s.boundary) u.bus) } :
          State).landDma)

/-- Every instruction answers a next state from every state, and so does every number of steps from
every state: no instruction faults. -/
def Obligations.NothingEverStops : Prop :=
  (∀ (i : Instr) (s : State), ∃ t, exec i s = .next t) ∧
  (∀ s : State, ∃ t, step s = .next t) ∧ ∀ (n : Nat) (s : State), SafeFor n s

/-- From every state whose memory is in canonical form (addresses rising, below 65,536, no listed byte
that an unlisted address would read as) and whose SO detector holds the pin's level while the
clock runs, with no halt and no write of another bus master left over, a step with any inputs
gives such a state. -/
def Obligations.StepKeepsInvariant : Prop :=
  ∀ s t : State, s.Inv → step s = .next t → t.Inv

/-- The memory of the reset state is in canonical form and its SO detector follows the pin, and
nothing is left over from a step. -/
def Obligations.ResetSatisfiesInvariant : Prop :=
  State.Inv State.reset

/-- The parameters of the platform and of the spec's open decisions are the same after every step, and
the counter the free values are applied to has grown. Derived: that the parameters are a field of
the state which no step changes is the model's choice (log 5, DESIGN CHOICE), and that the free
values hang on a growing counter is log 7. -/
def Obligations.StepKeepsParameters : Prop :=
  ∀ s t : State, step s = .next t → t.cfg = s.cfg ∧ s.tick < t.tick

/-- For every instruction: an address that it does not store to, or that is not RAM, reads after it as
before; an instruction that stores nothing leaves memory as it is; and the bus record grows by
exactly one write cycle for each address stored to, in order, with a byte on D0-D7. The addresses
are computed with the functions the meanings use. Derived: that a device address keeps memory as
it is is the model's choice (log 9), the record and its order log 17 (D10, D11). -/
def Obligations.InstructionStoresOnlyAtItsWriteCycles : Prop :=
  ∀ (i : Instr) (s t : State), Memory.wf s.mem = true → exec i s = .next t →
    (∀ a : Word, (a ∉ writeAddresses i s ∨ s.answer a ≠ .ram) → byteAt t a = byteAt s a) ∧
    (writeAddresses i s = [] → t.mem = s.mem) ∧
    ∃ cells : List StoredByte, cells.map (fun c => c.2.1) = writeAddresses i s ∧
      t.bus = s.bus ++ cells.map cycleOf

/-- For every instruction: if a register differs afterwards, the mnemonic is one the table of the
state inventory lists as its writer (a shift, INC or DEC writes A only in its accumulator form;
SPL and SPH are stepped by pushes, pulls, calls, returns and BRK). -/
def Obligations.RegisterWriters : Prop :=
  ∀ (i : Instr) (s t : State), exec i s = .next t →
    (t.a ≠ s.a → i.mnemonic ∈ ["ADC", "AND", "EOR", "LDA", "NEG", "ORA", "PLA", "SBC", "TBA", "TXA",
        "TYA", "TZA"] ∨
      (i.mnemonic ∈ ["ASL", "ASR", "DEC", "INC", "LSR", "ROL", "ROR"] ∧ i.mode = .accum)) ∧
    (t.x ≠ s.x → i.mnemonic ∈ ["DEX", "INX", "LDX", "PLX", "TAX", "TSX"]) ∧
    (t.y ≠ s.y → i.mnemonic ∈ ["DEY", "INY", "LDY", "PLY", "TAY", "TSY"]) ∧
    (t.z ≠ s.z → i.mnemonic ∈ ["DEZ", "INZ", "LDZ", "PLZ", "TAZ"]) ∧
    (t.b ≠ s.b → i.mnemonic = "TAB") ∧
    (t.sp ≠ s.sp → i.mnemonic ∈ ["TXS", "TYS", "PHA", "PHP", "PHX", "PHY", "PHZ", "PHW", "PLA",
        "PLP", "PLX", "PLY", "PLZ", "JSR", "BSR", "RTS", "RTN", "BRK", "RTI"])

/-- For every instruction: if a flag differs afterwards, the mnemonic is in the row of that flag; E
changes only by CLE and SEE, or by PLP and RTI where PULL_P_WRITES_E holds. Derived: most rows of
the table are family knowledge (log 19). -/
def Obligations.FlagWriters : Prop :=
  ∀ (i : Instr) (s t : State), exec i s = .next t →
    (t.p.n ≠ s.p.n ∨ t.p.zf ≠ s.p.zf → i.mnemonic ∈ ["ADC", "SBC", "AND", "EOR", "ORA", "ASL",
      "ASR", "LSR", "ROL", "ROR", "ASW", "ROW", "BIT", "CMP", "CPX", "CPY", "CPZ", "DEC", "INC",
      "DEX", "DEY", "DEZ", "INX", "INY", "INZ", "DEW", "INW", "NEG", "LDA", "LDX", "LDY", "LDZ",
      "PLA", "PLX", "PLY", "PLZ", "TAX", "TAY", "TAZ", "TXA", "TYA", "TZA", "TSX", "TSY", "TBA",
      "TSB", "TRB", "PLP", "RTI"]) ∧
    (t.p.n ≠ s.p.n → i.mnemonic ≠ "TSB" ∧ i.mnemonic ≠ "TRB") ∧
    (t.p.v ≠ s.p.v → i.mnemonic ∈ ["ADC", "SBC", "BIT", "CLV", "PLP", "RTI"]) ∧
    (t.p.e ≠ s.p.e → i.mnemonic ∈ ["CLE", "SEE"] ∨
      (s.cfg.pullPWritesE = true ∧ i.mnemonic ∈ ["PLP", "RTI"])) ∧
    (t.p.d ≠ s.p.d → i.mnemonic ∈ ["CLD", "SED", "PLP", "RTI", "BRK"]) ∧
    (t.p.i ≠ s.p.i → i.mnemonic ∈ ["CLI", "SEI", "PLP", "RTI", "BRK"]) ∧
    (t.p.c ≠ s.p.c → i.mnemonic ∈ ["ADC", "SBC", "ASL", "ASR", "LSR", "ROL", "ROR", "ASW", "ROW",
      "CMP", "CPX", "CPY", "CPZ", "CLC", "SEC", "PLP", "RTI"])

/-- With E set, every instruction but TYS leaves SPH as it is: every push, pull, call, return and trap
wraps inside the page. RTI is left out where PULL_P_WRITES_E holds, since E may then change
between its pulls. Derived: the wrap inside the page is the spec's inference. -/
def Obligations.StackPageKeptInByteMode : Prop :=
  ∀ (i : Instr) (s t : State), exec i s = .next t → s.p.e = true → i ≠ .tys →
    (i = .rti → s.cfg.pullPWritesE = false) → t.sph = s.sph

/-- For every instruction that is no branch, jump, call, return or trap, pc afterwards is pc0 plus the
length that R95 prints, modulo 65,536. Derived: the wrap is the spec's decision D13 (log 22). -/
def Obligations.PcAdvancesByLength : Prop :=
  ∀ (i : Instr) (s t : State), exec i s = .next t →
    i.mode ≠ .rel → i.mode ≠ .wrel → i.mode ≠ .bpRel →
    i.mnemonic ∉ ["JMP", "JSR", "RTS", "RTN", "RTI", "BRK"] →
    t.pc = pcAfter s i.length ∧ 1 ≤ i.length ∧ i.length ≤ 4

/-- For every instruction exec leaves the recognition window, the NMI latch, the reset and abandon
marks, the pins, the schedule of inputs, the halts, the counter and the parameters as they are:
interrupts pend while an instruction runs. It only adds write cycles to the bus record and only
overwrites what other masters put in memory before. Derived: the bus record is the model's (log
17, DESIGN CHOICE), and so is the list of what other masters wrote (log 16, DESIGN CHOICE). -/
def Obligations.InstructionLeavesThePinsAlone : Prop :=
  ∀ (i : Instr) (s t : State), exec i s = .next t →
    t.lastSingle = s.lastSingle ∧ t.nmiLatch = s.nmiLatch ∧ t.resetDue = s.resetDue ∧
    t.resCut = s.resCut ∧ t.pins = s.pins ∧ t.inputs = s.inputs ∧ t.stalls = s.stalls ∧
    t.tick = s.tick ∧ t.cfg = s.cfg ∧
    (∃ cycles, t.bus = s.bus ++ cycles ∧ ∀ c ∈ cycles, c.write = true) ∧
    t.dma.Sublist s.dma

/-- Every form of the four loads completes from every state with the operand byte in the register, N
and Z from it, pc past the instruction, and everything else, memory included, unchanged. Derived:
that loads write N and Z is family knowledge (log 19). -/
def Obligations.LoadsPutTheOperandInTheRegister : Prop :=
  ∀ (d m : Byte) (w : Word) (s : State),
    ldaForms s d m w (fun i op len cyc v =>
      Completes i op len cyc s { s with a := v, p := nz s.p v, pc := pcAfter s len }) ∧
    ldxForms s d m w (fun i op len cyc v =>
      Completes i op len cyc s { s with x := v, p := nz s.p v, pc := pcAfter s len }) ∧
    ldyForms s d m w (fun i op len cyc v =>
      Completes i op len cyc s { s with y := v, p := nz s.p v, pc := pcAfter s len }) ∧
    ldzForms s d m w (fun i op len cyc v =>
      Completes i op len cyc s { s with z := v, p := nz s.p v, pc := pcAfter s len })

/-- Every form of the four stores completes; in RAM the byte at the effective address is the
register's, every other byte reads as before, an address that is not RAM keeps what it reads, no
register or flag but pc changes. STZ stores the Z register. Derived: that the stores write no flag
is family knowledge (R250, log 19), that an address which is not RAM (a device too) keeps memory
as it is log 9. -/
def Obligations.StoresWriteOneByte : Prop :=
  ∀ (d : Byte) (w : Word) (s : State), Memory.wf s.mem = true →
    staForms s d 0 w (fun i op len cyc ea =>
      CompletesStoring i op len cyc s [(.writeLo, ea, s.a)] fun u =>
        { u with pc := pcAfter s len }) ∧
    stxForms s d 0 w (fun i op len cyc ea =>
      CompletesStoring i op len cyc s [(.writeLo, ea, s.x)] fun u =>
        { u with pc := pcAfter s len }) ∧
    styForms s d 0 w (fun i op len cyc ea =>
      CompletesStoring i op len cyc s [(.writeLo, ea, s.y)] fun u =>
        { u with pc := pcAfter s len }) ∧
    stzForms s d 0 w (fun i op len cyc ea =>
      CompletesStoring i op len cyc s [(.writeLo, ea, s.z)] fun u =>
        { u with pc := pcAfter s len })

/-- With D clear, every form of ADC puts A + M + C modulo 256 into A, C is the carry out, V says the
signed sum leaves -128..127; every form of SBC puts A - M - (1 - C) into A, C is "no borrow", V
the signed overflow of the difference; N and Z of the result. Derived: C, V and the borrow are the
family's definition (log 23). -/
def Obligations.BinaryAddAndSubtract : Prop :=
  ∀ (d m : Byte) (w : Word) (s : State), s.p.d = false →
    adcForms s d m w (fun i op len cyc v => Completes i op len cyc s (added s len v)) ∧
    sbcForms s d m w (fun i op len cyc v => Completes i op len cyc s (subtracted s len v))

/-- With D set and both operands packed decimal, every form of ADC gives the decimal sum with C the
decimal carry, every form of SBC the decimal difference with C "no borrow"; N and Z are of the
result byte; V takes some value, which the statement leaves open. Derived: the decimal rules rest
on log 10 and log 23. -/
def Obligations.DecimalAddAndSubtract : Prop :=
  ∀ (d m : Byte) (w : Word) (s : State), s.p.d = true →
    adcForms s d m w (fun i op len cyc v =>
      ∀ ah al mh ml : Nat, ah ≤ 9 → al ≤ 9 → mh ≤ 9 → ml ≤ 9 →
        s.a = digits ah al → v = digits mh ml →
        ∃ overflow, Completes i op len cyc s
          (decimalAdded s len (10 * ah + al + (10 * mh + ml) + s.p.c.toNat) overflow)) ∧
    sbcForms s d m w (fun i op len cyc v =>
      ∀ ah al mh ml : Nat, ah ≤ 9 → al ≤ 9 → mh ≤ 9 → ml ≤ 9 →
        s.a = digits ah al → v = digits mh ml →
        ∃ overflow, Completes i op len cyc s
          (decimalSubtracted s len
            (((10 * ah + al : Nat) : Int) - ((10 * mh + ml : Nat) : Int) - (1 - s.p.c.toNat))
            overflow))

/-- With D set and some digit above 9, every form of ADC and SBC still completes: A, N, V, Z and C
take some values, everything else (E, D, I, the other registers, memory) is unchanged and pc
advances. This is the model's reading of DECIMAL_INVALID = any value (log 10). -/
def Obligations.DecimalWithInvalidDigits : Prop :=
  ∀ (d m : Byte) (w : Word) (s : State), s.p.d = true →
    adcForms s d m w (fun i op len cyc v => SomeDigitInvalid s.a v →
      ∃ r n o z c, Completes i op len cyc s
        { s with a := r, p := { s.p with n := n, v := o, zf := z, c := c }, pc := pcAfter s len }) ∧
    sbcForms s d m w (fun i op len cyc v => SomeDigitInvalid s.a v →
      ∃ r n o z c, Completes i op len cyc s
        { s with a := r, p := { s.p with n := n, v := o, zf := z, c := c }, pc := pcAfter s len })

/-- Every form of the three instructions completes with A combined bit by bit with the operand, N and
Z from the result, pc advanced and everything else unchanged. Derived: the flags are family
knowledge (log 19). -/
def Obligations.LogicCombinesIntoA : Prop :=
  ∀ (d m : Byte) (w : Word) (s : State),
    andForms s d m w (fun i op len cyc v => Completes i op len cyc s
      { s with a := s.a &&& v, p := nz s.p (s.a &&& v), pc := pcAfter s len }) ∧
    oraForms s d m w (fun i op len cyc v => Completes i op len cyc s
      { s with a := s.a ||| v, p := nz s.p (s.a ||| v), pc := pcAfter s len }) ∧
    eorForms s d m w (fun i op len cyc v => Completes i op len cyc s
      { s with a := s.a ^^^ v, p := nz s.p (s.a ^^^ v), pc := pcAfter s len })

/-- Every form of BIT, immediate included, completes with Z set exactly when A and the operand share
no set bit, N bit 7 and V bit 6 of the operand, no register changed. Derived: which bits are meant
for the immediate form is the spec's decision D24 (log 19). -/
def Obligations.BitTestsTheOperand : Prop :=
  ∀ (d m : Byte) (w : Word) (s : State),
    bitForms s d m w (fun i op len cyc v => Completes i op len cyc s
      { s with
        p := { s.p with n := bit v 7, v := bit v 6, zf := decide ((s.a &&& v).toNat = 0) }
        pc := pcAfter s len })

/-- Every form of the four compares completes with C the unsigned order, Z equality and N the top bit
of the difference modulo 256, in binary whatever D is; no register changes and V is kept. Derived:
the flags are the family's (log 19, log 23). -/
def Obligations.ComparesSetCarryAndSign : Prop :=
  ∀ (d m : Byte) (w : Word) (s : State),
    cmpForms s d m w (fun i op len cyc v => Completes i op len cyc s (compared s len s.a v)) ∧
    cpxForms s d m w (fun i op len cyc v => Completes i op len cyc s (compared s len s.x v)) ∧
    cpyForms s d m w (fun i op len cyc v => Completes i op len cyc s (compared s len s.y v)) ∧
    cpzForms s d m w (fun i op len cyc v => Completes i op len cyc s (compared s len s.z v))

/-- Every form of INC and DEC, the six register steps and NEG complete with the value one up, one down
or negated modulo 256 and N and Z of the result; C and V are kept, memory changes only at the
effective address of the memory forms. Derived: the flags are family knowledge (log 19). Where an
address is not RAM memory is unchanged (log 9); the write cycles are recorded as log 17 says. -/
def Obligations.IncrementDecrementNegate : Prop :=
  ∀ (d : Byte) (w : Word) (s : State),
    (Memory.wf s.mem = true →
      incForms s d 0 w (fun i op len cyc ea =>
        CompletesStoring i op len cyc s
          [(.writeLo, ea, BitVec.ofNat 8 ((s.dataAt ea).toNat + 1))] fun u =>
          { u with
            p := nz s.p (BitVec.ofNat 8 ((s.dataAt ea).toNat + 1))
            pc := pcAfter s len }) ∧
      decForms s d 0 w (fun i op len cyc ea =>
        CompletesStoring i op len cyc s
          [(.writeLo, ea, BitVec.ofNat 8 ((s.dataAt ea).toNat + 255))] fun u =>
          { u with
            p := nz s.p (BitVec.ofNat 8 ((s.dataAt ea).toNat + 255))
            pc := pcAfter s len })) ∧
    Completes .incA 0x1A 1 1 s
      { s with a := (BitVec.ofNat 8 (s.a.toNat + 1)), p := nz s.p (BitVec.ofNat 8 (s.a.toNat + 1)), pc := pcAfter s 1 } ∧
    Completes .inx 0xE8 1 1 s
      { s with x := (BitVec.ofNat 8 (s.x.toNat + 1)), p := nz s.p (BitVec.ofNat 8 (s.x.toNat + 1)), pc := pcAfter s 1 } ∧
    Completes .iny 0xC8 1 1 s
      { s with y := (BitVec.ofNat 8 (s.y.toNat + 1)), p := nz s.p (BitVec.ofNat 8 (s.y.toNat + 1)), pc := pcAfter s 1 } ∧
    Completes .inz 0x1B 1 1 s
      { s with z := (BitVec.ofNat 8 (s.z.toNat + 1)), p := nz s.p (BitVec.ofNat 8 (s.z.toNat + 1)), pc := pcAfter s 1 } ∧
    Completes .decA 0x3A 1 1 s
      { s with a := (BitVec.ofNat 8 (s.a.toNat + 255)), p := nz s.p (BitVec.ofNat 8 (s.a.toNat + 255)), pc := pcAfter s 1 } ∧
    Completes .dex 0xCA 1 1 s
      { s with x := (BitVec.ofNat 8 (s.x.toNat + 255)), p := nz s.p (BitVec.ofNat 8 (s.x.toNat + 255)), pc := pcAfter s 1 } ∧
    Completes .dey 0x88 1 1 s
      { s with y := (BitVec.ofNat 8 (s.y.toNat + 255)), p := nz s.p (BitVec.ofNat 8 (s.y.toNat + 255)), pc := pcAfter s 1 } ∧
    Completes .dez 0x3B 1 1 s
      { s with z := (BitVec.ofNat 8 (s.z.toNat + 255)), p := nz s.p (BitVec.ofNat 8 (s.z.toNat + 255)), pc := pcAfter s 1 } ∧
    Completes .neg 0x42 1 2 s
      { s with a := (BitVec.ofNat 8 (256 - s.a.toNat)), p := nz s.p (BitVec.ofNat 8 (256 - s.a.toNat)), pc := pcAfter s 1 }

/-- INW and DEW complete: the word at bp(d), bp(d + 1), low byte at the lower address, goes one up or
down modulo 65,536, N and Z are of the 16-bit result, C and V are kept. ASW and ROW complete: the
word at w, w + 1 becomes 2M, respectively 2M + C, modulo 65,536, C is its old bit 15, N and Z are
of the 16-bit result. Both bytes are written, every other byte reads as before. Derived: byte
order and base-page wrap are decisions D10, D12 (log 22), the flags are the family's (log 19, log
23). Where an address is not RAM memory is unchanged (log 9); the write cycles are recorded as log
17 says. -/
def Obligations.WordStepsAndShifts : Prop :=
  (∀ (d : Byte) (s : State), Memory.wf s.mem = true →
    (let w : Word := BitVec.ofNat 16 ((operandWord s (eaBp d s) (eaBpNext d s)).toNat + 1)
     WritesWord (.inw d) 0xE3 2 6 s (eaBp d s) (eaBpNext d s) w (nz16 s.p w)) ∧
    (let w : Word := BitVec.ofNat 16 ((operandWord s (eaBp d s) (eaBpNext d s)).toNat + 65535)
     WritesWord (.dew d) 0xC3 2 6 s (eaBp d s) (eaBpNext d s) w (nz16 s.p w))) ∧
  ∀ (w : Word) (s : State), Memory.wf s.mem = true →
    (let old := operandWord s w (w + 1)
     let r : Word := BitVec.ofNat 16 (2 * old.toNat)
     WritesWord (.asw w) 0xCB 3 7 s w (w + 1) r
       { nz16 s.p r with c := decide (32768 ≤ old.toNat) }) ∧
    (let old := operandWord s w (w + 1)
     let r : Word := BitVec.ofNat 16 (2 * old.toNat + s.p.c.toNat)
     WritesWord (.row w) 0xEB 3 6 s w (w + 1) r
       { nz16 s.p r with c := decide (32768 ≤ old.toNat) })

/-- Every form completes: the result is 2M, M/2, M/2 with bit 7 kept, 2M + C, M/2 + 128C modulo 256, C
the bit shifted out, N and Z of the result; the memory forms change only the byte at the effective
address. Derived: which flags are written is family knowledge (log 23). Where an address is not
RAM memory is unchanged (log 9); the write cycles are recorded as log 17 says. -/
def Obligations.ShiftsAndRotates : Prop :=
  ∀ (d : Byte) (w : Word) (s : State),
    Completes .aslA 0x0A 1 1 s (shiftedA s asl) ∧
    Completes .lsrA 0x4A 1 1 s (shiftedA s lsr) ∧
    Completes .asrA 0x43 1 2 s (shiftedA s asr) ∧
    Completes .rolA 0x2A 1 1 s (shiftedA s rol) ∧
    Completes .rorA 0x6A 1 1 s (shiftedA s ror) ∧
    (Memory.wf s.mem = true →
      aslForms s d 0 w (ShiftsMemory asl s) ∧
      lsrForms s d 0 w (ShiftsMemory lsr s) ∧
      asrForms s d 0 w (ShiftsMemory asr s) ∧
      rolForms s d 0 w (ShiftsMemory rol s) ∧
      rorForms s d 0 w (ShiftsMemory ror s))

/-- Every form of TSB stores A or M, every form of TRB stores M without the bits of A; Z says whether
A and the old M share no bit; A and the other flags are kept. Each RMBn and SMBn, n 0 to 7, takes
exactly bit n from the byte at bp(d) or gives it, and writes no flag. Only the byte at the
effective address and pc change besides. Derived: which flags are written is family knowledge (log
19). Where an address is not RAM memory is unchanged (log 9); the write cycles are recorded as log
17 says. -/
def Obligations.SetAndResetMemoryBits : Prop :=
  (∀ (d : Byte) (w : Word) (s : State), Memory.wf s.mem = true →
    tsbForms s d 0 w (fun i op len cyc ea =>
      CompletesStoring i op len cyc s [(.writeLo, ea, s.a ||| s.dataAt ea)] fun u =>
        { u with
          p := { s.p with zf := decide ((s.a &&& s.dataAt ea).toNat = 0) }
          pc := pcAfter s len }) ∧
    trbForms s d 0 w (fun i op len cyc ea =>
      CompletesStoring i op len cyc s [(.writeLo, ea, ~~~s.a &&& s.dataAt ea)] fun u =>
        { u with
          p := { s.p with zf := decide ((s.a &&& s.dataAt ea).toNat = 0) }
          pc := pcAfter s len })) ∧
  ∀ (d : Byte) (s : State), Memory.wf s.mem = true →
    rmbForms s d (fun n i op len cyc ea =>
      CompletesStoring i op len cyc s
        [(.writeLo, ea,
          BitVec.ofNat 8 ((s.dataAt ea).toNat - if bit (s.dataAt ea) n then 2 ^ n else 0))]
        fun u => { u with pc := pcAfter s len }) ∧
    smbForms s d (fun n i op len cyc ea =>
      CompletesStoring i op len cyc s
        [(.writeLo, ea,
          BitVec.ofNat 8 ((s.dataAt ea).toNat + if bit (s.dataAt ea) n then 0 else 2 ^ n))]
        fun u => { u with pc := pcAfter s len })

/-- Each of the sixteen instructions completes with only pc changed: to pc0 + 3 plus the signed offset
when bit n of the byte at bp(d) is 0 (BBR) or 1 (BBS), else to pc0 + 3, modulo 65,536. Derived:
that no flag is written is family knowledge (log 19), the wrap decision D13 (log 22). -/
def Obligations.BitBranches : Prop :=
  ∀ (d r : Byte) (s : State),
    bbrForms d r (fun n i op len cyc => Completes i op len cyc s
      { s with pc := if bit (s.dataAt (eaBp d s)) n then pcAfter s 3
                     else BitVec.ofInt 16 (s.pc.toNat + 3 + r.toInt) }) ∧
    bbsForms d r (fun n i op len cyc => Completes i op len cyc s
      { s with pc := if bit (s.dataAt (eaBp d s)) n
                     then BitVec.ofInt 16 (s.pc.toNat + 3 + r.toInt) else pcAfter s 3 })

/-- BCC, BCS, BEQ, BMI, BNE, BPL, BVC, BVS on C, Z, N, V and BRU always: taken, pc is pc0 + 2 plus the
signed 8-bit or 16-bit offset modulo 65,536; not taken, the next instruction. No flag, register or
byte of memory changes, and the cycles are those printed whether taken or not. Derived: the wrap
of the target at 65,536 is decision D13 (log 22). -/
def Obligations.BranchesTestOneFlag : Prop :=
  ∀ (r : Byte) (w : Word) (s : State),
    Completes (.bccRel r) 0x90 2 2 s (branchRel s r (!s.p.c)) ∧
    Completes (.bccWrel w) 0x93 3 3 s (branchWord s w (!s.p.c)) ∧
    Completes (.bcsRel r) 0xB0 2 2 s (branchRel s r s.p.c) ∧
    Completes (.bcsWrel w) 0xB3 3 3 s (branchWord s w s.p.c) ∧
    Completes (.beqRel r) 0xF0 2 2 s (branchRel s r s.p.zf) ∧
    Completes (.beqWrel w) 0xF3 3 3 s (branchWord s w s.p.zf) ∧
    Completes (.bmiRel r) 0x30 2 2 s (branchRel s r s.p.n) ∧
    Completes (.bmiWrel w) 0x33 3 3 s (branchWord s w s.p.n) ∧
    Completes (.bneRel r) 0xD0 2 2 s (branchRel s r (!s.p.zf)) ∧
    Completes (.bneWrel w) 0xD3 3 3 s (branchWord s w (!s.p.zf)) ∧
    Completes (.bplRel r) 0x10 2 2 s (branchRel s r (!s.p.n)) ∧
    Completes (.bplWrel w) 0x13 3 3 s (branchWord s w (!s.p.n)) ∧
    Completes (.bvcRel r) 0x50 2 2 s (branchRel s r (!s.p.v)) ∧
    Completes (.bvcWrel w) 0x53 3 3 s (branchWord s w (!s.p.v)) ∧
    Completes (.bvsRel r) 0x70 2 2 s (branchRel s r s.p.v) ∧
    Completes (.bvsWrel w) 0x73 3 3 s (branchWord s w s.p.v) ∧
    Completes (.bruRel r) 0x80 2 2 s (branchRel s r true) ∧
    Completes (.bruWrel w) 0x83 3 3 s (branchWord s w true)

/-- JMP ABS goes to its operand; JMP (ABS) and JMP (ABS,X) go to the word read at the operand,
respectively the operand plus X, with the carry into the high byte for the second pointer byte;
nothing else changes. Derived: that carry is the spec's decision D27 (log 22). -/
def Obligations.JumpsLoadThePc : Prop :=
  ∀ (w : Word) (s : State),
    Completes (.jmpAbs w) 0x4C 3 3 s { s with pc := w } ∧
    Completes (.jmpAbsInd w) 0x6C 3 5 s
      { s with pc := pointerWord s w (BitVec.ofNat 16 (w.toNat + 1)) } ∧
    Completes (.jmpAbsXInd w) 0x7C 3 5 s
      { s with
        pc := pointerWord s (BitVec.ofNat 16 (w.toNat + s.x.toNat))
          (BitVec.ofNat 16 (w.toNat + s.x.toNat + 1)) }

/-- The three forms of JSR and BSR complete: two bytes of pc0 + 2 are stored at SP and one step below,
high byte first, SP drops by two under E, pc is the operand, the pointer word (read after the
pushes) or pc0 + 2 plus the offset; every other byte, register and flag is unchanged. Derived: the
convention is the family's (log 20). Where an address is not RAM memory is unchanged (log 9); the
write cycles are recorded as log 17 says. -/
def Obligations.CallsPushTheReturnAddress : Prop :=
  ∀ (w : Word) (s : State), Memory.wf s.mem = true →
    Calls (.jsrAbs w) 0x20 3 5 s (fun _ => w) ∧
    Calls (.jsrAbsInd w) 0x22 3 7 s (fun u =>
      pointerWord u w (BitVec.ofNat 16 (w.toNat + 1))) ∧
    Calls (.jsrAbsXInd w) 0x23 3 7 s (fun u =>
      pointerWord u (BitVec.ofNat 16 (w.toNat + s.x.toNat))
        (BitVec.ofNat 16 (w.toNat + s.x.toNat + 1))) ∧
    Calls (.bsr w) 0x63 3 5 s (fun _ => BitVec.ofInt 16 (s.pc.toNat + 2 + w.toInt))

/-- RTS pulls low byte then high byte and goes to the word plus one, SP two higher. RTN does the same
and moves SP up by its unsigned count, after the pulls or before them as RTN_ORDER says; inside
the page in byte mode. Nothing else changes. Derived: the convention and the order are family
knowledge and decision D25 (log 20, log 26). -/
def Obligations.ReturnsPullTheAddress : Prop :=
  ∀ (n : Byte) (s : State),
    Completes .rts 0x60 1 4 s
      { s with
        sp := above s 2
        pc := BitVec.ofNat 16
          ((word (s.read .pull2 (above s 2)) (s.read .pull1 (above s 1))).toNat + 1) } ∧
    (s.cfg.rtnOrder = .pullThenAdjust → Completes (.rtn n) 0x62 2 7 s
      { s with
        sp := above s (2 + n.toNat)
        pc := BitVec.ofNat 16
          ((word (s.read .pull2 (above s 2)) (s.read .pull1 (above s 1))).toNat + 1) }) ∧
    (s.cfg.rtnOrder = .adjustThenPull → Completes (.rtn n) 0x62 2 7 s
      { s with
        sp := above s (n.toNat + 2)
        pc := BitVec.ofNat 16
          ((word (s.read .pull2 (above s (n.toNat + 2)))
            (s.read .pull1 (above s (n.toNat + 1)))).toNat + 1) })

/-- Each completes: the register's byte at SP (in RAM), SP one step down under E, pc past the
instruction; every other byte, register and flag is unchanged. Derived: that pushes write no flag
is family knowledge (R250, log 19); the wrap of SP is R27's inference in byte mode and decision
D13 (log 22) in word mode. Where an address is not RAM memory is unchanged (log 9); the write
cycles are recorded as log 17 says. -/
def Obligations.PushesStoreTheRegister : Prop :=
  ∀ s : State, Memory.wf s.mem = true →
    CompletesStoring .pha 0x48 1 3 s [(.push1, s.sp, s.a)] (fun u =>
      { u with sp := below s 1, pc := pcAfter s 1 }) ∧
    CompletesStoring .phx 0xDA 1 3 s [(.push1, s.sp, s.x)] (fun u =>
      { u with sp := below s 1, pc := pcAfter s 1 }) ∧
    CompletesStoring .phy 0x5A 1 3 s [(.push1, s.sp, s.y)] (fun u =>
      { u with sp := below s 1, pc := pcAfter s 1 }) ∧
    CompletesStoring .phz 0xDB 1 3 s [(.push1, s.sp, s.z)] (fun u =>
      { u with sp := below s 1, pc := pcAfter s 1 })

/-- PHP stores N V E 1 D I Z C at SP; PHW stores its word's two bytes at SP and one step below, high
byte first or low byte first as PHW_ORDER says, the word being the operand or the word in memory
at it; SP drops by one or two under E, no flag changes. Derived: the image is decision D1, D2 (log
18), the order D8 (log 26). Where an address is not RAM memory is unchanged (log 9); the write
cycles are recorded as log 17 says. -/
def Obligations.PushStatusAndPushWord : Prop :=
  ∀ (w : Word) (s : State), Memory.wf s.mem = true →
    CompletesStoring .php 0x08 1 3 s [(.push1, s.sp, image s.p true)] (fun u =>
      { u with sp := below s 1, pc := pcAfter s 1 }) ∧
    (s.cfg.phwOrder = .highFirst →
      CompletesStoring (.phwImmW w) 0xF4 3 5 s [(.push1, s.sp, high w), (.push2, below s 1, low w)] (fun u =>
        { u with sp := below s 2, pc := pcAfter s 3 }) ∧
      CompletesStoring (.phwAbs w) 0xFC 3 7 s
        [(.push1, s.sp, high (sourceOperand s w)), (.push2, below s 1, low (sourceOperand s w))]
        (fun u => { u with sp := below s 2, pc := pcAfter s 3 })) ∧
    (s.cfg.phwOrder = .lowFirst →
      CompletesStoring (.phwImmW w) 0xF4 3 5 s [(.push1, s.sp, low w), (.push2, below s 1, high w)] (fun u =>
        { u with sp := below s 2, pc := pcAfter s 3 }) ∧
      CompletesStoring (.phwAbs w) 0xFC 3 7 s
        [(.push1, s.sp, low (sourceOperand s w)), (.push2, below s 1, high (sourceOperand s w))]
        (fun u => { u with sp := below s 2, pc := pcAfter s 3 }))

/-- Each completes with SP one step up under E and the byte read there in the register, N and Z of it,
or, for PLP, in the flags: bits 7, 6, 3, 2, 1, 0 to N V D I Z C, bit 4 ignored, bit 5 to E only
where PULL_P_WRITES_E holds. Nothing else changes. Derived: flags and layout are family knowledge
(log 18, log 19). -/
def Obligations.PullsLoadTheRegister : Prop :=
  ∀ s : State,
    Completes .pla 0x68 1 3 s
      { s with
        a := s.read .pull1 (above s 1)
        p := nz s.p (s.read .pull1 (above s 1))
        sp := above s 1
        pc := pcAfter s 1 } ∧
    Completes .plx 0xFA 1 3 s
      { s with
        x := s.read .pull1 (above s 1)
        p := nz s.p (s.read .pull1 (above s 1))
        sp := above s 1
        pc := pcAfter s 1 } ∧
    Completes .ply 0x7A 1 3 s
      { s with
        y := s.read .pull1 (above s 1)
        p := nz s.p (s.read .pull1 (above s 1))
        sp := above s 1
        pc := pcAfter s 1 } ∧
    Completes .plz 0xFB 1 3 s
      { s with
        z := s.read .pull1 (above s 1)
        p := nz s.p (s.read .pull1 (above s 1))
        sp := above s 1
        pc := pcAfter s 1 } ∧
    Completes .plp 0x28 1 3 s
      { s with
        p := loadP s.p s.cfg.pullPWritesE (s.read .pull1 (above s 1))
        sp := above s 1
        pc := pcAfter s 1 }

/-- Each completes with only the destination (A, X, Y, Z, B, SPL or SPH), pc and, except for TAB, TXS
and TYS, the flags N and Z of the value changed; TXS leaves SPH and TYS leaves SPL, in both stack
modes. Derived: which transfers write flags is decision D26 (log 19). -/
def Obligations.TransfersCopyTheRegister : Prop :=
  ∀ s : State,
    Completes .tax 0xAA 1 1 s { s with x := s.a, p := nz s.p s.a, pc := pcAfter s 1 } ∧
    Completes .tay 0xA8 1 1 s { s with y := s.a, p := nz s.p s.a, pc := pcAfter s 1 } ∧
    Completes .taz 0x4B 1 1 s { s with z := s.a, p := nz s.p s.a, pc := pcAfter s 1 } ∧
    Completes .txa 0x8A 1 1 s { s with a := s.x, p := nz s.p s.x, pc := pcAfter s 1 } ∧
    Completes .tya 0x98 1 1 s { s with a := s.y, p := nz s.p s.y, pc := pcAfter s 1 } ∧
    Completes .tza 0x6B 1 1 s { s with a := s.z, p := nz s.p s.z, pc := pcAfter s 1 } ∧
    Completes .tba 0x7B 1 1 s { s with a := s.b, p := nz s.p s.b, pc := pcAfter s 1 } ∧
    Completes .tsx 0xBA 1 1 s { s with x := (BitVec.ofNat 8 (s.sp.toNat % 256)), p := nz s.p (BitVec.ofNat 8 (s.sp.toNat % 256)), pc := pcAfter s 1 } ∧
    Completes .tsy 0x0B 1 1 s { s with y := (BitVec.ofNat 8 (s.sp.toNat / 256)), p := nz s.p (BitVec.ofNat 8 (s.sp.toNat / 256)), pc := pcAfter s 1 } ∧
    Completes .tab 0x5B 1 1 s { s with b := s.a, pc := pcAfter s 1 } ∧
    Completes .txs 0x9A 1 1 s
      { s with sp := BitVec.ofNat 16 (s.sp.toNat / 256 * 256 + s.x.toNat), pc := pcAfter s 1 } ∧
    Completes .tys 0x2B 1 1 s
      { s with sp := BitVec.ofNat 16 (256 * s.y.toNat + s.sp.toNat % 256), pc := pcAfter s 1 }

/-- Each completes with C cleared or set and pc one further; no other flag, register or byte changes;
both are single-cycle. -/
def Obligations.CarryInstructionsWriteC : Prop :=
  ∀ s : State,
    Completes .clc 0x18 1 1 s { s with p := { s.p with c := false }, pc := pcAfter s 1 } ∧
    Completes .sec 0x38 1 1 s { s with p := { s.p with c := true }, pc := pcAfter s 1 } ∧
    Instr.singleCycle .clc = true ∧ Instr.singleCycle .sec = true

/-- NOP completes with only pc changed. It is single-cycle, and after a single-cycle opcode no
interrupt is pending at the boundary, whatever the latch, the pin and I are: an interrupt waits
through a run of NOPs. -/
def Obligations.NopChangesNothingButPc : Prop :=
  ∀ s : State,
    Completes .nop 0xEA 1 1 s { s with pc := pcAfter s 1 } ∧
    Instr.singleCycle .nop = true ∧
    ({ s with lastSingle := Instr.singleCycle .nop } : State).pendingInterrupt = none

/-- Each completes with the one flag cleared or set and pc one further; no other flag, register or
byte changes (changing E moves no bit of SP). CLD, SED and CLV are single-cycle; CLE, SEE, CLI and
SEI take two cycles, so an interrupt can be taken right after them. AUG completes four bytes
further with nothing else changed, whatever its operand bytes. Derived: CLI's two cycles are the
spec's choice C5 (log 24), AUG's reads decision D21. -/
def Obligations.FlagInstructionsWriteOneFlag : Prop :=
  ∀ (b1 b2 b3 : Byte) (s : State),
    Completes .cld 0xD8 1 1 s { s with p := { s.p with d := false }, pc := pcAfter s 1 } ∧
    Completes .sed 0xF8 1 1 s { s with p := { s.p with d := true }, pc := pcAfter s 1 } ∧
    Completes .clv 0xB8 1 1 s { s with p := { s.p with v := false }, pc := pcAfter s 1 } ∧
    Completes .cle 0x02 1 2 s { s with p := { s.p with e := false }, pc := pcAfter s 1 } ∧
    Completes .see 0x03 1 2 s { s with p := { s.p with e := true }, pc := pcAfter s 1 } ∧
    Completes .cli 0x58 1 2 s { s with p := { s.p with i := false }, pc := pcAfter s 1 } ∧
    Completes .sei 0x78 1 2 s { s with p := { s.p with i := true }, pc := pcAfter s 1 } ∧
    Completes (.aug b1 b2 b3) 0x5C 4 4 s { s with pc := pcAfter s 4 } ∧
    Instr.singleCycle .cld = true ∧ Instr.singleCycle .sed = true ∧
    Instr.singleCycle .clv = true ∧ Instr.singleCycle .cle = false ∧
    Instr.singleCycle .see = false ∧ Instr.singleCycle .cli = false ∧
    Instr.singleCycle .sei = false

/-- BRK completes from every state whatever I is: high byte, low byte of pc0 + 2 and the status image
with bit 4 = 1 are stored at SP and the two steps below, SP drops by three under E, I is set, D is
as TRAP_CLEARS_D says, pc is the word at $FFFE read after the pushes; nothing else changes.
Derived: BRK is family knowledge (log 21). Where an address is not RAM memory is unchanged (log
9); the write cycles are recorded as log 17 says. -/
def Obligations.BreakTakesTheTrap : Prop :=
  ∀ (sig : Byte) (s : State), Memory.wf s.mem = true →
    ∃ d, TrapD s d ∧
      CompletesStoring (.brk sig) 0x00 2 7 s (trapCells s (pcAfter s 2) true)
        (fun u => trapped s u 0xFFFE d)

/-- RTI completes: the flags are loaded from the byte one step above SP, then pc from the next two,
low byte first and no plus one, each step under the E of its moment (E itself changes only where
PULL_P_WRITES_E holds); A, X, Y, Z, B and memory are unchanged. Derived: RTI is family knowledge
(log 18, log 21). -/
def Obligations.ReturnFromInterruptRestores : Prop :=
  ∀ s : State,
    let p := loadP s.p s.cfg.pullPWritesE (s.read .pull1 (above s 1))
    Completes .rti 0x40 1 5 s
      { s with
        p := p
        sp := upFrom p.e (above s 1) 2
        pc := word (s.read .pull3 (upFrom p.e (above s 1) 2))
          (s.read .pull2 (upFrom p.e (above s 1) 1)) }

/-- Where SP points to RAM and no other master acts, PHA then PLA (and X, Y, Z) gives the register its
value back with N and Z of it, whatever it and the flags other than E held in between, and PHP
then PLP restores every flag; SP is where it was, in both stack modes. Derived from the stack
rules and the flag rules (log 18, log 19). -/
def Obligations.PushThenPullRestores : Prop :=
  ∀ s : State, Memory.wf s.mem = true → s.answer s.sp = .ram →
    s.dma = [] →
    (∀ t v p, exec .pha s = .next t → p.e = s.p.e →
      exec .pla { t with a := v, p := p } =
        .next { t with a := s.a, p := nz p s.a, sp := s.sp, pc := pcAfter s 2 }) ∧
    (∀ t v p, exec .phx s = .next t → p.e = s.p.e →
      exec .plx { t with x := v, p := p } =
        .next { t with x := s.x, p := nz p s.x, sp := s.sp, pc := pcAfter s 2 }) ∧
    (∀ t v p, exec .phy s = .next t → p.e = s.p.e →
      exec .ply { t with y := v, p := p } =
        .next { t with y := s.y, p := nz p s.y, sp := s.sp, pc := pcAfter s 2 }) ∧
    (∀ t v p, exec .phz s = .next t → p.e = s.p.e →
      exec .plz { t with z := v, p := p } =
        .next { t with z := s.z, p := nz p s.z, sp := s.sp, pc := pcAfter s 2 }) ∧
    (∀ t p, exec .php s = .next t → p.e = s.p.e →
      exec .plp { t with p := p } = .next { t with p := s.p, sp := s.sp, pc := pcAfter s 2 })

/-- Where the two stack bytes are RAM and no other master acts: after any of the four calls, RTS in
the state reached by the call goes to pc0 + 3 and puts SP back, in both stack modes, with every
register and flag as at the call. Derived: the convention is the family's (log 20). -/
def Obligations.CallThenReturnComesBack : Prop :=
  ∀ (i : Instr) (s t : State), Memory.wf s.mem = true → StackInRam s 2 → s.dma = [] →
    i.mnemonic = "JSR" ∨ i.mnemonic = "BSR" → exec i s = .next t →
    exec .rts t = .next { s with mem := t.mem, bus := t.bus, pc := pcAfter s 3 }

/-- Where the three stack bytes are RAM and no other master acts, RTI in the state reached by trap
entry (for every vector, return address and break bit) gives back every flag, SP and the return
address, in both stack modes and under both values of PULL_P_WRITES_E, whatever trap entry did to
D; A, X, Y, Z and B are untouched. For BRK that is pc0 + 2. Derived: log 18, log 21. -/
def Obligations.TrapThenReturnResumes : Prop :=
  ∀ (vector ret : Word) (b : Bool) (sig : Byte) (s : State),
    Memory.wf s.mem = true → StackInRam s 3 → s.dma = [] →
    exec .rti (s.trapEntry vector ret b) =
      .next { s with
        mem := (s.trapEntry vector ret b).mem
        bus := (s.trapEntry vector ret b).bus
        pc := ret } ∧
    (∀ t, exec (.brk sig) s = .next t →
      exec .rti t = .next { s with mem := t.mem, bus := t.bus, pc := pcAfter s 2 })

/-- In the default orders (PHW_ORDER high first, STACK_REL_PAGE_WRAP true) and with the two stack
bytes in RAM and no other master acting, after PHW of a word, LDA (1,SP),Y loads from the word
plus Y, in both stack modes. Derived: the order is decision D8, the displacement D9 (log 26). -/
def Obligations.PushedWordServesStackRelative : Prop :=
  ∀ (w : Word) (s t : State), Memory.wf s.mem = true → StackInRam s 2 → s.dma = [] →
    s.cfg.phwOrder = .highFirst → s.cfg.stackRelPageWrap = true →
    exec (.phwImmW w) s = .next t →
    ∃ v, v = t.read .dataLo (BitVec.ofNat 16 (w.toNat + s.y.toNat)) ∧
      exec (.ldaSpIndY 1) t = .next { t with a := v, p := nz t.p v, pc := pcAfter s 5 }

/-- SBC of M is ADC of its complement in binary mode; SBC after SEC agrees with CMP in C, Z and N, and
CMP keeps A and V; CLC ADC #0 and SEC SBC #0 keep A; NEG twice restores A; ASL is ROL and LSR is
ROR with C clear; ROL then ROR and ROR then ROL restore A and C. Derived: the spec derives these
laws itself. -/
def Obligations.ArithmeticLaws : Prop :=
  ∀ (m : Byte) (s t u : State),
    (s.p.d = false → exec (.sbcImm m) s = exec (.adcImm (m ^^^ 0xFF)) s) ∧
    (s.p.d = false → s.p.c = true → exec (.sbcImm m) s = .next t → exec (.cmpImm m) s = .next u →
      t.p.c = u.p.c ∧ t.p.zf = u.p.zf ∧ t.p.n = u.p.n ∧ u.a = s.a ∧ u.p.v = s.p.v) ∧
    (s.p.d = false → s.p.c = false → exec (.adcImm 0) s = .next t → t.a = s.a) ∧
    (s.p.d = false → s.p.c = true → exec (.sbcImm 0) s = .next t → t.a = s.a) ∧
    (exec .neg s = .next t → exec .neg t = .next u → u.a = s.a) ∧
    (s.p.c = false → exec .aslA s = exec .rolA s ∧ exec .lsrA s = exec .rorA s) ∧
    (exec .rolA s = .next t → exec .rorA t = .next u → u.a = s.a ∧ u.p.c = s.p.c) ∧
    (exec .rorA s = .next t → exec .rolA t = .next u → u.a = s.a ∧ u.p.c = s.p.c)

/-- Where the operand is RAM and no other master acts: ASW equals ASL of the low byte followed by ROL
of the high byte as far as memory and C go; INC then DEC and INW then DEW leave memory as it was;
TSB then TRB with the same A leaves M without the bits of A. Derived: the spec derives these laws
itself. -/
def Obligations.MemoryLaws : Prop :=
  ∀ (d : Byte) (w : Word) (s t u v : State), Memory.wf s.mem = true → s.dma = [] →
    (s.answer w = .ram → s.answer (w + 1) = .ram → exec (.aslAbs w) s = .next t →
      exec (.rolAbs (w + 1)) t = .next u → exec (.asw w) s = .next v →
      u.mem = v.mem ∧ u.p.c = v.p.c) ∧
    (s.answer w = .ram → exec (.incAbs w) s = .next t → exec (.decAbs w) t = .next u →
      ∀ a, byteAt u a = byteAt s a) ∧
    (s.answer (eaBp d s) = .ram → s.answer (eaBpNext d s) = .ram → exec (.inw d) s = .next t →
      exec (.dew d) t = .next u → ∀ a, byteAt u a = byteAt s a) ∧
    (s.answer w = .ram → exec (.tsbAbs w) s = .next t → exec (.trbAbs w) t = .next u →
      byteAt u w = ~~~s.a &&& byteAt s w)

/-- At a quiet boundary with the window open: a set NMI latch is cleared and trap entry runs through
$FFFA, whatever I and IRQ are; with the latch clear, IRQ low and I clear, trap entry runs through
$FFFE and the latch stays. pc of the boundary and the status with bit 4 = 0 are stored, I is set,
the sequence counts as multiple-cycle, and the bus shows the three writes and the two vector
reads. Derived: log 21, log 24. Where an address is not RAM memory is unchanged (log 9); the write
cycles are recorded as log 17 says. -/
def Obligations.InterruptsAreTaken : Prop :=
  ∀ s : State, Memory.wf s.mem = true → s.quiet = true → s.lastSingle = false →
    (s.nmiLatch = true → ∃ u d, TrapD s d ∧ Wrote (atBoundary s) u (trapCells s s.pc false) ∧
      step s = .next { trapped (atBoundary s) u 0xFFFA d with
        nmiLatch := false
        lastSingle := false
        bus := u.bus ++ vectorCycles 0xFFFA }) ∧
    (s.nmiLatch = false → s.pins.irq = false → s.p.i = false →
      ∃ u d, TrapD s d ∧ Wrote (atBoundary s) u (trapCells s s.pc false) ∧
        step s = .next { trapped (atBoundary s) u 0xFFFE d with
          lastSingle := false
          bus := u.bus ++ vectorCycles 0xFFFE })

/-- If the two opcodes stand in RAM at pc and no interrupt can be recognised before the first, then
whatever the environment does to the IRQ and NMI pins at the boundary between them, the second
step runs the second opcode: both halves of SP are set, pc is two further and nothing was pushed.
Derived: the window rule rests on log 24. -/
def Obligations.NoInterruptBetweenTxsAndTys : Prop :=
  ∀ (first second : Byte) (batch : List Input) (later : List (List Input)) (s : State),
    (first = 0x9A ∧ second = 0x2B) ∨ (first = 0x2B ∧ second = 0x9A) →
    holdsOpcodes s first second → s.quiet = true → NoInterrupt s →
    s.inputs = [] :: batch :: later → batch.all movesInterruptPin = true →
    ∃ t u, step s = .next t ∧ step t = .next u ∧ u.sp = word s.y s.x ∧ u.mem = s.mem ∧
      u.pc = pcAfter s 2 ∧ u.a = s.a ∧ u.x = s.x ∧ u.y = s.y ∧ u.p = s.p

/-- When the reset sequence is due at a boundary, the processor is not halted there and RES does not
fall again in the step, the step runs the sequence before any pending NMI or IRQ: E and I are set,
SPH is 01, B and Z are 00, pc is the word at $FFFC, the processor writes no memory (it is as the
environment left it), the sequence is no longer due and counts as multiple-cycle. The environment
may do anything at the boundary, RES and RDY rising there too, and between the two vector reads.
The registers the spec leaves unspecified are left open. Derived: that memory is kept is decision
D20, that the sequence counts as multiple-cycle D15 (log 24); the bus record is log 17. -/
def Obligations.ResetSequenceSetsWhatTheSpecLists : Prop :=
  ∀ s : State, s.boundary.halted = false → s.boundary.resetDue = true → s.boundary.resCut = false →
    ∃ t, step s = .next t ∧ t.p.e = true ∧ t.p.i = true ∧ t.sp.toNat / 256 = 1 ∧
      t.b.toNat = 0 ∧ t.z.toNat = 0 ∧
      t.pc = word (s.boundary.read .vectorHi 0xFFFD) (s.boundary.read .vectorLo 0xFFFC) ∧
      t.mem = s.boundary.landDma.mem ∧ (s.boundary.dma = [] → t.mem = s.boundary.mem) ∧
      t.cfg = s.cfg ∧ t.pins = s.boundary.pins ∧ t.inputs = s.inputs.tail ∧
      t.resetDue = false ∧ t.lastSingle = false ∧
      t.bus = withStalls s.boundary.stalls (vectorCycles 0xFFFC)

/-- B and Z are 00, SPH is 01, E and I are set, pc is the word at the reset vector, the recognition
window is open and no reset is due. Derived: that the window is open (the reset sequence counts as
multiple-cycle) is decision D15 (log 24); that no reset is due is the model's own, its reset state
being the one after the sequence (log 6). The values the spec leaves unspecified are the model's
(log 2, log 3) and not stated. -/
def Obligations.ResetStateHasTheStatedValues : Prop :=
  State.reset.b = 0x00 ∧ State.reset.z = 0x00 ∧ State.reset.sph = 0x01 ∧
  State.reset.p.e = true ∧ State.reset.p.i = true ∧
  State.reset.pc = State.reset.vectorAt 0xFFFC ∧ State.reset.lastSingle = false ∧
  State.reset.resetDue = false

/-- One input: with the clock running a fall of NMI sets the latch, a rise or a repeated level leaves
it; with the clock and RDY high a sampled fall of SO sets V, a rise or repeated level leaves V; a
level of SO and a start or stop of the clock change no flag but V; IRQ is a level and moves no
latch; a rise of RES makes the reset sequence due; a DMA write at the boundary stores only while
RDY is low, and then as a processor write would; a halt before a cycle notes that cycle and the
write another master makes meanwhile. Derived: log 12, log 13, log 14; that IRQ has no latch is
decision D31 (log 21). -/
def Obligations.PinsActAtTheirEdges : Prop :=
  ∀ (high : Bool) (slot : BusSlot) (a : Word) (v : Byte) (s : State),
    (s.pins.clock = true → (s.applyInput (.nmi high)).nmiLatch =
      (s.nmiLatch || (s.pins.nmi && !high))) ∧
    (s.pins.clock = true → s.pins.rdy = true → (s.applyInput (.so high)).p =
      { s.p with v := s.p.v || (s.pins.soSampled && !high) }) ∧
    (s.applyInput (.so true)).p = s.p ∧
    (∃ o, (s.applyInput (.so high)).p = { s.p with v := o }) ∧
    (∃ o, (s.applyInput (.clock high)).p = { s.p with v := o }) ∧
    (s.applyInput (.irq high)).pins = { s.pins with irq := high } ∧
    (s.applyInput (.irq high)).nmiLatch = s.nmiLatch ∧
    (s.applyInput (.res high)).resetDue = (s.resetDue || (!s.pins.res && high)) ∧
    (s.pins.rdy = true → (s.applyInput (.dma a v)).mem = s.mem) ∧
    (s.pins.rdy = false → (s.applyInput (.dma a v)).mem = (s.writeData a v).mem) ∧
    (s.dma = [] → s.applyInput (.halt slot [(a, v)]) =
      { s with
        tick := s.tick + 1
        stalls := s.stalls ++ [slot]
        dma := [{ before := slot, address := a, value := v }] })

/-- With RDY low before one cycle of the instruction, another master writes to RAM: a byte it puts
under an INC ABS before the read is incremented, one put between the read and the write is lost,
one put after the write stays; a pointer of JMP (ABS) of which both bytes are changed before the
first read is followed as changed, and changed between its two reads it is torn: old low byte, new
high byte. In the order of the slots of D10 (log 17). -/
def Obligations.OtherMastersActBetweenBusCycles : Prop :=
  ∀ (slot : BusSlot) (w : Word) (v old new : Byte) (s t : State), Memory.wf s.mem = true →
    s.answer w = .ram → s.answer (w + 1) = .ram →
    (s.dma = [{ before := slot, address := w, value := v }] → byteAt s w = old →
      exec (.incAbs w) s = .next t →
      byteAt t.landDma w =
        if slotRank slot ≤ slotRank .dataLo then v + 1
        else if slotRank slot ≤ slotRank .writeLo then old + 1
        else v) ∧
    (s.dma = [{ before := slot, address := w, value := v },
        { before := slot, address := w + 1, value := new }] →
      (slotRank slot ≤ slotRank .pointerLo →
        exec (.jmpAbsInd w) s = .next { s with pc := word new v }) ∧
      (slot = .pointerHi → byteAt s w = old →
        exec (.jmpAbsInd w) s = .next { s with pc := word new old }))

/-- At a boundary with no input in which the processor is halted, the step only takes the batch off
the schedule, advances the counter of the free values and sets the bus record: nothing is
recognised and nothing runs, whatever is pending. With RDY low (clock running, RES high) the
address lines hold the pc of the opcode fetch that waits; with the clock stopped or RES low, and
before a due reset sequence, no cycle is recorded. Derived: that a halt changes no state is the
spec's inference, and where it stands the model's (log 28). -/
def Obligations.HaltedStepChangesNothing : Prop :=
  ∀ s : State, (s.inputs.headD []).isEmpty = true → s.resCut = false →
    s.pins.rdy = false ∨ s.pins.clock = false ∨ s.pins.res = false →
    step s = .next { atBoundary s with
      bus := if s.pins.clock = true ∧ s.pins.res = true ∧ s.resetDue = false then
        [{ slot := .opcode, address := s.pc, write := false, data := none, ready := false }]
        else [] }

/-- Where RES falls during a step (by an input of the batch at its boundary or before), every byte of
memory afterwards is what it was at the boundary or what the whole step would have left, both with
what other masters wrote meanwhile, and RES is low. Derived: decision D30 (log 15). -/
def Obligations.AbandonedInstructionLeavesOldOrNewBytes : Prop :=
  ∀ s t u : State, Memory.wf s.mem = true → s.boundary.resCut = true → step s = .next t →
    land (s.boundary.setResCut false).cycle = .next u →
    t.pins.res = false ∧ t.resCut = false ∧
    ∀ a : Word, byteAt t a = byteAt s.boundary.landDma a ∨ byteAt t a = byteAt u a

end
end

