-- ==== Sys2Proof/Laws/Decode.lean ====
section
/-! SUPPORT. The byte-order helpers and what the decoder can answer. -/

namespace Sys2Proof

theorem wordOf_toNat (h l : Byte) : (wordOf h l).toNat = 256 * h.toNat + l.toNat := by
  have := l.isLt
  simp only [wordOf, BitVec.toNat_append, Nat.shiftLeft_eq]
  rw [Nat.mul_comm, show (256 : Nat) = 2 ^ 8 by rfl, ← Nat.two_pow_add_eq_or_of_lt this]

theorem hiByte_toNat (w : Word) : (hiByte w).toNat = w.toNat / 256 := by
  have := w.isLt
  simp only [hiByte, BitVec.extractLsb'_toNat, Nat.shiftRight_eq_div_pow]
  omega

theorem loByte_toNat (w : Word) : (loByte w).toNat = w.toNat % 256 := by
  simp [loByte, BitVec.extractLsb'_toNat]

@[simp] theorem wordOf_hi_lo (w : Word) : wordOf (hiByte w) (loByte w) = w := by
  apply BitVec.eq_of_toNat_eq
  rw [wordOf_toNat, hiByte_toNat, loByte_toNat]
  omega

@[simp] theorem hiByte_wordOf (h l : Byte) : hiByte (wordOf h l) = h := by
  apply BitVec.eq_of_toNat_eq
  have := l.isLt
  rw [hiByte_toNat, wordOf_toNat]
  omega

@[simp] theorem loByte_wordOf (h l : Byte) : loByte (wordOf h l) = l := by
  apply BitVec.eq_of_toNat_eq
  have := l.isLt
  rw [loByte_toNat, wordOf_toNat]
  omega

/-- The decoder answers an instruction exactly when there are as many bytes as the opcode needs, and
then leaves the bytes after it. -/
theorem decode_eq_ok {op : Byte} {rest : List Byte} (h : opcodeLength op ≤ rest.length + 1) :
    decode (op :: rest) =
      .ok (decodeOpcode op (rest.getD 0 0) (rest.getD 1 0) (rest.getD 2 0),
        rest.drop (opcodeLength op - 1)) := by
  simp only [decode]
  rw [if_neg (by omega)]

theorem decode_truncated {op : Byte} {rest : List Byte} (h : rest.length + 1 < opcodeLength op) :
    decode (op :: rest) = .error (.truncated op) := by
  simp only [decode]
  rw [if_pos h]

end Sys2Proof
end

