-- ==== Sys2Proof/Laws/Flags.lean ====
section
/-! SUPPORT. The flag updates field by field, and the status byte read back. -/

namespace Sys2Proof.Machine

section
variable (p : Flags) (v : Byte) (w : Word)
@[simp] theorem Flags.nz_n : (p.nz v).n = v.msb := rfl
@[simp] theorem Flags.nz_v : (p.nz v).v = p.v := rfl
@[simp] theorem Flags.nz_e : (p.nz v).e = p.e := rfl
@[simp] theorem Flags.nz_d : (p.nz v).d = p.d := rfl
@[simp] theorem Flags.nz_i : (p.nz v).i = p.i := rfl
@[simp] theorem Flags.nz_zf : (p.nz v).zf = (v == 0) := rfl
@[simp] theorem Flags.nz_c : (p.nz v).c = p.c := rfl
@[simp] theorem Flags.nz16_n : (p.nz16 w).n = w.msb := rfl
@[simp] theorem Flags.nz16_v : (p.nz16 w).v = p.v := rfl
@[simp] theorem Flags.nz16_e : (p.nz16 w).e = p.e := rfl
@[simp] theorem Flags.nz16_d : (p.nz16 w).d = p.d := rfl
@[simp] theorem Flags.nz16_i : (p.nz16 w).i = p.i := rfl
@[simp] theorem Flags.nz16_zf : (p.nz16 w).zf = (w == 0) := rfl
@[simp] theorem Flags.nz16_c : (p.nz16 w).c = p.c := rfl
end

/-- The status byte bit by bit, R32. -/
theorem Flags.image_bits (p : Flags) (b : Bool) :
    (p.image b).getLsbD 7 = p.n ∧ (p.image b).getLsbD 6 = p.v ∧ (p.image b).getLsbD 5 = p.e ∧
    (p.image b).getLsbD 4 = b ∧ (p.image b).getLsbD 3 = p.d ∧ (p.image b).getLsbD 2 = p.i ∧
    (p.image b).getLsbD 1 = p.zf ∧ (p.image b).getLsbD 0 = p.c := by
  obtain ⟨n, v, e, d, i, zf, c⟩ := p
  cases n <;> cases v <;> cases e <;> cases d <;> cases i <;> cases zf <;> cases c <;> cases b <;>
    decide

/-- Loading a pushed image gives the flags back, whatever bit 4 was, whether or not E is loaded. -/
@[simp] theorem Flags.load_image (p : Flags) (b w : Bool) : p.load w (p.image b) = p := by
  obtain ⟨h7, h6, h5, _, h3, h2, h1, h0⟩ := Flags.image_bits p b
  obtain ⟨n, v, e, d, i, zf, c⟩ := p
  simp only [Flags.load, h7, h6, h5, h3, h2, h1, h0, ite_self]

/-- Only D, N, V, Zf and C can change in an addition or subtraction; E, D and I never do. -/
theorem adcSum_frame (tick : Nat) (p : Flags) (a m : Byte) :
    (adcSum tick p a m).flags.e = p.e ∧ (adcSum tick p a m).flags.d = p.d ∧
      (adcSum tick p a m).flags.i = p.i := by
  unfold adcSum addDecimal invalidBcd addBinary
  split <;> (try split) <;> simp [Flags.nz]

theorem sbcSum_frame (tick : Nat) (p : Flags) (a m : Byte) :
    (sbcSum tick p a m).flags.e = p.e ∧ (sbcSum tick p a m).flags.d = p.d ∧
      (sbcSum tick p a m).flags.i = p.i := by
  unfold sbcSum subDecimal invalidBcd addBinary
  split <;> (try split) <;> simp [Flags.nz]

/-- What a compare writes, R200. -/
@[simp] theorem Flags.compare_eq (p : Flags) (r m : Byte) :
    p.compare r m =
      { p with n := (r - m).msb, zf := r - m == 0, c := decide (m.toNat ≤ r.toNat) } := rfl

/-- What a byte shift writes. -/
@[simp] theorem Flags.shifted_eq (p : Flags) (rc : Byte × Bool) :
    p.shifted rc = { p with n := rc.1.msb, zf := rc.1 == 0, c := rc.2 } := rfl

/-- What a word shift writes. -/
@[simp] theorem Flags.shifted16_eq (p : Flags) (rc : Word × Bool) :
    p.shifted16 rc = { p with n := rc.1.msb, zf := rc.1 == 0, c := rc.2 } := rfl

/-- The flags after trap entry: I is set, E and the result flags stay (R352). -/
theorem trapFlags_frame (how : TrapClearsD) (tick : Nat) (p : Flags) :
    (trapFlags how tick p).n = p.n ∧ (trapFlags how tick p).v = p.v ∧
      (trapFlags how tick p).e = p.e ∧ (trapFlags how tick p).i = true ∧
      (trapFlags how tick p).zf = p.zf ∧ (trapFlags how tick p).c = p.c :=
  ⟨rfl, rfl, rfl, rfl, rfl, rfl⟩

end Sys2Proof.Machine
end

