-- ==== Sys2Proof/Laws/State.lean ====
section
/-! SUPPORT. One lemma per field of `State` for each update, and for the stores, pushes and pulls built
from them: no later proof unfolds a record update. -/

namespace Sys2Proof.Machine

section
variable (s : State) (v : Byte)
@[simp] theorem State.setA_a : (s.setA v).a = v := rfl
@[simp] theorem State.setA_x : (s.setA v).x = s.x := rfl
@[simp] theorem State.setA_y : (s.setA v).y = s.y := rfl
@[simp] theorem State.setA_z : (s.setA v).z = s.z := rfl
@[simp] theorem State.setA_b : (s.setA v).b = s.b := rfl
@[simp] theorem State.setA_sp : (s.setA v).sp = s.sp := rfl
@[simp] theorem State.setA_pc : (s.setA v).pc = s.pc := rfl
@[simp] theorem State.setA_p : (s.setA v).p = s.p := rfl
@[simp] theorem State.setA_mem : (s.setA v).mem = s.mem := rfl
@[simp] theorem State.setA_cfg : (s.setA v).cfg = s.cfg := rfl
@[simp] theorem State.setA_lastSingle : (s.setA v).lastSingle = s.lastSingle := rfl
@[simp] theorem State.setA_nmiLatch : (s.setA v).nmiLatch = s.nmiLatch := rfl
@[simp] theorem State.setA_resetDue : (s.setA v).resetDue = s.resetDue := rfl
@[simp] theorem State.setA_resCut : (s.setA v).resCut = s.resCut := rfl
@[simp] theorem State.setA_pins : (s.setA v).pins = s.pins := rfl
@[simp] theorem State.setA_inputs : (s.setA v).inputs = s.inputs := rfl
@[simp] theorem State.setA_bus : (s.setA v).bus = s.bus := rfl
@[simp] theorem State.setA_dma : (s.setA v).dma = s.dma := rfl
@[simp] theorem State.setA_stalls : (s.setA v).stalls = s.stalls := rfl
@[simp] theorem State.setA_tick : (s.setA v).tick = s.tick := rfl
end

section
variable (s : State) (v : Byte)
@[simp] theorem State.setX_a : (s.setX v).a = s.a := rfl
@[simp] theorem State.setX_x : (s.setX v).x = v := rfl
@[simp] theorem State.setX_y : (s.setX v).y = s.y := rfl
@[simp] theorem State.setX_z : (s.setX v).z = s.z := rfl
@[simp] theorem State.setX_b : (s.setX v).b = s.b := rfl
@[simp] theorem State.setX_sp : (s.setX v).sp = s.sp := rfl
@[simp] theorem State.setX_pc : (s.setX v).pc = s.pc := rfl
@[simp] theorem State.setX_p : (s.setX v).p = s.p := rfl
@[simp] theorem State.setX_mem : (s.setX v).mem = s.mem := rfl
@[simp] theorem State.setX_cfg : (s.setX v).cfg = s.cfg := rfl
@[simp] theorem State.setX_lastSingle : (s.setX v).lastSingle = s.lastSingle := rfl
@[simp] theorem State.setX_nmiLatch : (s.setX v).nmiLatch = s.nmiLatch := rfl
@[simp] theorem State.setX_resetDue : (s.setX v).resetDue = s.resetDue := rfl
@[simp] theorem State.setX_resCut : (s.setX v).resCut = s.resCut := rfl
@[simp] theorem State.setX_pins : (s.setX v).pins = s.pins := rfl
@[simp] theorem State.setX_inputs : (s.setX v).inputs = s.inputs := rfl
@[simp] theorem State.setX_bus : (s.setX v).bus = s.bus := rfl
@[simp] theorem State.setX_dma : (s.setX v).dma = s.dma := rfl
@[simp] theorem State.setX_stalls : (s.setX v).stalls = s.stalls := rfl
@[simp] theorem State.setX_tick : (s.setX v).tick = s.tick := rfl
end

section
variable (s : State) (v : Byte)
@[simp] theorem State.setY_a : (s.setY v).a = s.a := rfl
@[simp] theorem State.setY_x : (s.setY v).x = s.x := rfl
@[simp] theorem State.setY_y : (s.setY v).y = v := rfl
@[simp] theorem State.setY_z : (s.setY v).z = s.z := rfl
@[simp] theorem State.setY_b : (s.setY v).b = s.b := rfl
@[simp] theorem State.setY_sp : (s.setY v).sp = s.sp := rfl
@[simp] theorem State.setY_pc : (s.setY v).pc = s.pc := rfl
@[simp] theorem State.setY_p : (s.setY v).p = s.p := rfl
@[simp] theorem State.setY_mem : (s.setY v).mem = s.mem := rfl
@[simp] theorem State.setY_cfg : (s.setY v).cfg = s.cfg := rfl
@[simp] theorem State.setY_lastSingle : (s.setY v).lastSingle = s.lastSingle := rfl
@[simp] theorem State.setY_nmiLatch : (s.setY v).nmiLatch = s.nmiLatch := rfl
@[simp] theorem State.setY_resetDue : (s.setY v).resetDue = s.resetDue := rfl
@[simp] theorem State.setY_resCut : (s.setY v).resCut = s.resCut := rfl
@[simp] theorem State.setY_pins : (s.setY v).pins = s.pins := rfl
@[simp] theorem State.setY_inputs : (s.setY v).inputs = s.inputs := rfl
@[simp] theorem State.setY_bus : (s.setY v).bus = s.bus := rfl
@[simp] theorem State.setY_dma : (s.setY v).dma = s.dma := rfl
@[simp] theorem State.setY_stalls : (s.setY v).stalls = s.stalls := rfl
@[simp] theorem State.setY_tick : (s.setY v).tick = s.tick := rfl
end

section
variable (s : State) (v : Byte)
@[simp] theorem State.setZ_a : (s.setZ v).a = s.a := rfl
@[simp] theorem State.setZ_x : (s.setZ v).x = s.x := rfl
@[simp] theorem State.setZ_y : (s.setZ v).y = s.y := rfl
@[simp] theorem State.setZ_z : (s.setZ v).z = v := rfl
@[simp] theorem State.setZ_b : (s.setZ v).b = s.b := rfl
@[simp] theorem State.setZ_sp : (s.setZ v).sp = s.sp := rfl
@[simp] theorem State.setZ_pc : (s.setZ v).pc = s.pc := rfl
@[simp] theorem State.setZ_p : (s.setZ v).p = s.p := rfl
@[simp] theorem State.setZ_mem : (s.setZ v).mem = s.mem := rfl
@[simp] theorem State.setZ_cfg : (s.setZ v).cfg = s.cfg := rfl
@[simp] theorem State.setZ_lastSingle : (s.setZ v).lastSingle = s.lastSingle := rfl
@[simp] theorem State.setZ_nmiLatch : (s.setZ v).nmiLatch = s.nmiLatch := rfl
@[simp] theorem State.setZ_resetDue : (s.setZ v).resetDue = s.resetDue := rfl
@[simp] theorem State.setZ_resCut : (s.setZ v).resCut = s.resCut := rfl
@[simp] theorem State.setZ_pins : (s.setZ v).pins = s.pins := rfl
@[simp] theorem State.setZ_inputs : (s.setZ v).inputs = s.inputs := rfl
@[simp] theorem State.setZ_bus : (s.setZ v).bus = s.bus := rfl
@[simp] theorem State.setZ_dma : (s.setZ v).dma = s.dma := rfl
@[simp] theorem State.setZ_stalls : (s.setZ v).stalls = s.stalls := rfl
@[simp] theorem State.setZ_tick : (s.setZ v).tick = s.tick := rfl
end

section
variable (s : State) (v : Byte)
@[simp] theorem State.setB_a : (s.setB v).a = s.a := rfl
@[simp] theorem State.setB_x : (s.setB v).x = s.x := rfl
@[simp] theorem State.setB_y : (s.setB v).y = s.y := rfl
@[simp] theorem State.setB_z : (s.setB v).z = s.z := rfl
@[simp] theorem State.setB_b : (s.setB v).b = v := rfl
@[simp] theorem State.setB_sp : (s.setB v).sp = s.sp := rfl
@[simp] theorem State.setB_pc : (s.setB v).pc = s.pc := rfl
@[simp] theorem State.setB_p : (s.setB v).p = s.p := rfl
@[simp] theorem State.setB_mem : (s.setB v).mem = s.mem := rfl
@[simp] theorem State.setB_cfg : (s.setB v).cfg = s.cfg := rfl
@[simp] theorem State.setB_lastSingle : (s.setB v).lastSingle = s.lastSingle := rfl
@[simp] theorem State.setB_nmiLatch : (s.setB v).nmiLatch = s.nmiLatch := rfl
@[simp] theorem State.setB_resetDue : (s.setB v).resetDue = s.resetDue := rfl
@[simp] theorem State.setB_resCut : (s.setB v).resCut = s.resCut := rfl
@[simp] theorem State.setB_pins : (s.setB v).pins = s.pins := rfl
@[simp] theorem State.setB_inputs : (s.setB v).inputs = s.inputs := rfl
@[simp] theorem State.setB_bus : (s.setB v).bus = s.bus := rfl
@[simp] theorem State.setB_dma : (s.setB v).dma = s.dma := rfl
@[simp] theorem State.setB_stalls : (s.setB v).stalls = s.stalls := rfl
@[simp] theorem State.setB_tick : (s.setB v).tick = s.tick := rfl
end

section
variable (s : State) (v : Word)
@[simp] theorem State.setSp_a : (s.setSp v).a = s.a := rfl
@[simp] theorem State.setSp_x : (s.setSp v).x = s.x := rfl
@[simp] theorem State.setSp_y : (s.setSp v).y = s.y := rfl
@[simp] theorem State.setSp_z : (s.setSp v).z = s.z := rfl
@[simp] theorem State.setSp_b : (s.setSp v).b = s.b := rfl
@[simp] theorem State.setSp_sp : (s.setSp v).sp = v := rfl
@[simp] theorem State.setSp_pc : (s.setSp v).pc = s.pc := rfl
@[simp] theorem State.setSp_p : (s.setSp v).p = s.p := rfl
@[simp] theorem State.setSp_mem : (s.setSp v).mem = s.mem := rfl
@[simp] theorem State.setSp_cfg : (s.setSp v).cfg = s.cfg := rfl
@[simp] theorem State.setSp_lastSingle : (s.setSp v).lastSingle = s.lastSingle := rfl
@[simp] theorem State.setSp_nmiLatch : (s.setSp v).nmiLatch = s.nmiLatch := rfl
@[simp] theorem State.setSp_resetDue : (s.setSp v).resetDue = s.resetDue := rfl
@[simp] theorem State.setSp_resCut : (s.setSp v).resCut = s.resCut := rfl
@[simp] theorem State.setSp_pins : (s.setSp v).pins = s.pins := rfl
@[simp] theorem State.setSp_inputs : (s.setSp v).inputs = s.inputs := rfl
@[simp] theorem State.setSp_bus : (s.setSp v).bus = s.bus := rfl
@[simp] theorem State.setSp_dma : (s.setSp v).dma = s.dma := rfl
@[simp] theorem State.setSp_stalls : (s.setSp v).stalls = s.stalls := rfl
@[simp] theorem State.setSp_tick : (s.setSp v).tick = s.tick := rfl
end

section
variable (s : State) (v : Word)
@[simp] theorem State.setPc_a : (s.setPc v).a = s.a := rfl
@[simp] theorem State.setPc_x : (s.setPc v).x = s.x := rfl
@[simp] theorem State.setPc_y : (s.setPc v).y = s.y := rfl
@[simp] theorem State.setPc_z : (s.setPc v).z = s.z := rfl
@[simp] theorem State.setPc_b : (s.setPc v).b = s.b := rfl
@[simp] theorem State.setPc_sp : (s.setPc v).sp = s.sp := rfl
@[simp] theorem State.setPc_pc : (s.setPc v).pc = v := rfl
@[simp] theorem State.setPc_p : (s.setPc v).p = s.p := rfl
@[simp] theorem State.setPc_mem : (s.setPc v).mem = s.mem := rfl
@[simp] theorem State.setPc_cfg : (s.setPc v).cfg = s.cfg := rfl
@[simp] theorem State.setPc_lastSingle : (s.setPc v).lastSingle = s.lastSingle := rfl
@[simp] theorem State.setPc_nmiLatch : (s.setPc v).nmiLatch = s.nmiLatch := rfl
@[simp] theorem State.setPc_resetDue : (s.setPc v).resetDue = s.resetDue := rfl
@[simp] theorem State.setPc_resCut : (s.setPc v).resCut = s.resCut := rfl
@[simp] theorem State.setPc_pins : (s.setPc v).pins = s.pins := rfl
@[simp] theorem State.setPc_inputs : (s.setPc v).inputs = s.inputs := rfl
@[simp] theorem State.setPc_bus : (s.setPc v).bus = s.bus := rfl
@[simp] theorem State.setPc_dma : (s.setPc v).dma = s.dma := rfl
@[simp] theorem State.setPc_stalls : (s.setPc v).stalls = s.stalls := rfl
@[simp] theorem State.setPc_tick : (s.setPc v).tick = s.tick := rfl
end

section
variable (s : State) (v : Flags)
@[simp] theorem State.setP_a : (s.setP v).a = s.a := rfl
@[simp] theorem State.setP_x : (s.setP v).x = s.x := rfl
@[simp] theorem State.setP_y : (s.setP v).y = s.y := rfl
@[simp] theorem State.setP_z : (s.setP v).z = s.z := rfl
@[simp] theorem State.setP_b : (s.setP v).b = s.b := rfl
@[simp] theorem State.setP_sp : (s.setP v).sp = s.sp := rfl
@[simp] theorem State.setP_pc : (s.setP v).pc = s.pc := rfl
@[simp] theorem State.setP_p : (s.setP v).p = v := rfl
@[simp] theorem State.setP_mem : (s.setP v).mem = s.mem := rfl
@[simp] theorem State.setP_cfg : (s.setP v).cfg = s.cfg := rfl
@[simp] theorem State.setP_lastSingle : (s.setP v).lastSingle = s.lastSingle := rfl
@[simp] theorem State.setP_nmiLatch : (s.setP v).nmiLatch = s.nmiLatch := rfl
@[simp] theorem State.setP_resetDue : (s.setP v).resetDue = s.resetDue := rfl
@[simp] theorem State.setP_resCut : (s.setP v).resCut = s.resCut := rfl
@[simp] theorem State.setP_pins : (s.setP v).pins = s.pins := rfl
@[simp] theorem State.setP_inputs : (s.setP v).inputs = s.inputs := rfl
@[simp] theorem State.setP_bus : (s.setP v).bus = s.bus := rfl
@[simp] theorem State.setP_dma : (s.setP v).dma = s.dma := rfl
@[simp] theorem State.setP_stalls : (s.setP v).stalls = s.stalls := rfl
@[simp] theorem State.setP_tick : (s.setP v).tick = s.tick := rfl
end

section
variable (s : State) (v : Memory)
@[simp] theorem State.setMem_a : (s.setMem v).a = s.a := rfl
@[simp] theorem State.setMem_x : (s.setMem v).x = s.x := rfl
@[simp] theorem State.setMem_y : (s.setMem v).y = s.y := rfl
@[simp] theorem State.setMem_z : (s.setMem v).z = s.z := rfl
@[simp] theorem State.setMem_b : (s.setMem v).b = s.b := rfl
@[simp] theorem State.setMem_sp : (s.setMem v).sp = s.sp := rfl
@[simp] theorem State.setMem_pc : (s.setMem v).pc = s.pc := rfl
@[simp] theorem State.setMem_p : (s.setMem v).p = s.p := rfl
@[simp] theorem State.setMem_mem : (s.setMem v).mem = v := rfl
@[simp] theorem State.setMem_cfg : (s.setMem v).cfg = s.cfg := rfl
@[simp] theorem State.setMem_lastSingle : (s.setMem v).lastSingle = s.lastSingle := rfl
@[simp] theorem State.setMem_nmiLatch : (s.setMem v).nmiLatch = s.nmiLatch := rfl
@[simp] theorem State.setMem_resetDue : (s.setMem v).resetDue = s.resetDue := rfl
@[simp] theorem State.setMem_resCut : (s.setMem v).resCut = s.resCut := rfl
@[simp] theorem State.setMem_pins : (s.setMem v).pins = s.pins := rfl
@[simp] theorem State.setMem_inputs : (s.setMem v).inputs = s.inputs := rfl
@[simp] theorem State.setMem_bus : (s.setMem v).bus = s.bus := rfl
@[simp] theorem State.setMem_dma : (s.setMem v).dma = s.dma := rfl
@[simp] theorem State.setMem_stalls : (s.setMem v).stalls = s.stalls := rfl
@[simp] theorem State.setMem_tick : (s.setMem v).tick = s.tick := rfl
end

section
variable (s : State) (v : Bool)
@[simp] theorem State.setLastSingle_a : (s.setLastSingle v).a = s.a := rfl
@[simp] theorem State.setLastSingle_x : (s.setLastSingle v).x = s.x := rfl
@[simp] theorem State.setLastSingle_y : (s.setLastSingle v).y = s.y := rfl
@[simp] theorem State.setLastSingle_z : (s.setLastSingle v).z = s.z := rfl
@[simp] theorem State.setLastSingle_b : (s.setLastSingle v).b = s.b := rfl
@[simp] theorem State.setLastSingle_sp : (s.setLastSingle v).sp = s.sp := rfl
@[simp] theorem State.setLastSingle_pc : (s.setLastSingle v).pc = s.pc := rfl
@[simp] theorem State.setLastSingle_p : (s.setLastSingle v).p = s.p := rfl
@[simp] theorem State.setLastSingle_mem : (s.setLastSingle v).mem = s.mem := rfl
@[simp] theorem State.setLastSingle_cfg : (s.setLastSingle v).cfg = s.cfg := rfl
@[simp] theorem State.setLastSingle_lastSingle : (s.setLastSingle v).lastSingle = v := rfl
@[simp] theorem State.setLastSingle_nmiLatch : (s.setLastSingle v).nmiLatch = s.nmiLatch := rfl
@[simp] theorem State.setLastSingle_resetDue : (s.setLastSingle v).resetDue = s.resetDue := rfl
@[simp] theorem State.setLastSingle_resCut : (s.setLastSingle v).resCut = s.resCut := rfl
@[simp] theorem State.setLastSingle_pins : (s.setLastSingle v).pins = s.pins := rfl
@[simp] theorem State.setLastSingle_inputs : (s.setLastSingle v).inputs = s.inputs := rfl
@[simp] theorem State.setLastSingle_bus : (s.setLastSingle v).bus = s.bus := rfl
@[simp] theorem State.setLastSingle_dma : (s.setLastSingle v).dma = s.dma := rfl
@[simp] theorem State.setLastSingle_stalls : (s.setLastSingle v).stalls = s.stalls := rfl
@[simp] theorem State.setLastSingle_tick : (s.setLastSingle v).tick = s.tick := rfl
end

section
variable (s : State) (v : Bool)
@[simp] theorem State.setNmiLatch_a : (s.setNmiLatch v).a = s.a := rfl
@[simp] theorem State.setNmiLatch_x : (s.setNmiLatch v).x = s.x := rfl
@[simp] theorem State.setNmiLatch_y : (s.setNmiLatch v).y = s.y := rfl
@[simp] theorem State.setNmiLatch_z : (s.setNmiLatch v).z = s.z := rfl
@[simp] theorem State.setNmiLatch_b : (s.setNmiLatch v).b = s.b := rfl
@[simp] theorem State.setNmiLatch_sp : (s.setNmiLatch v).sp = s.sp := rfl
@[simp] theorem State.setNmiLatch_pc : (s.setNmiLatch v).pc = s.pc := rfl
@[simp] theorem State.setNmiLatch_p : (s.setNmiLatch v).p = s.p := rfl
@[simp] theorem State.setNmiLatch_mem : (s.setNmiLatch v).mem = s.mem := rfl
@[simp] theorem State.setNmiLatch_cfg : (s.setNmiLatch v).cfg = s.cfg := rfl
@[simp] theorem State.setNmiLatch_lastSingle : (s.setNmiLatch v).lastSingle = s.lastSingle := rfl
@[simp] theorem State.setNmiLatch_nmiLatch : (s.setNmiLatch v).nmiLatch = v := rfl
@[simp] theorem State.setNmiLatch_resetDue : (s.setNmiLatch v).resetDue = s.resetDue := rfl
@[simp] theorem State.setNmiLatch_resCut : (s.setNmiLatch v).resCut = s.resCut := rfl
@[simp] theorem State.setNmiLatch_pins : (s.setNmiLatch v).pins = s.pins := rfl
@[simp] theorem State.setNmiLatch_inputs : (s.setNmiLatch v).inputs = s.inputs := rfl
@[simp] theorem State.setNmiLatch_bus : (s.setNmiLatch v).bus = s.bus := rfl
@[simp] theorem State.setNmiLatch_dma : (s.setNmiLatch v).dma = s.dma := rfl
@[simp] theorem State.setNmiLatch_stalls : (s.setNmiLatch v).stalls = s.stalls := rfl
@[simp] theorem State.setNmiLatch_tick : (s.setNmiLatch v).tick = s.tick := rfl
end

section
variable (s : State) (v : Bool)
@[simp] theorem State.setResetDue_a : (s.setResetDue v).a = s.a := rfl
@[simp] theorem State.setResetDue_x : (s.setResetDue v).x = s.x := rfl
@[simp] theorem State.setResetDue_y : (s.setResetDue v).y = s.y := rfl
@[simp] theorem State.setResetDue_z : (s.setResetDue v).z = s.z := rfl
@[simp] theorem State.setResetDue_b : (s.setResetDue v).b = s.b := rfl
@[simp] theorem State.setResetDue_sp : (s.setResetDue v).sp = s.sp := rfl
@[simp] theorem State.setResetDue_pc : (s.setResetDue v).pc = s.pc := rfl
@[simp] theorem State.setResetDue_p : (s.setResetDue v).p = s.p := rfl
@[simp] theorem State.setResetDue_mem : (s.setResetDue v).mem = s.mem := rfl
@[simp] theorem State.setResetDue_cfg : (s.setResetDue v).cfg = s.cfg := rfl
@[simp] theorem State.setResetDue_lastSingle : (s.setResetDue v).lastSingle = s.lastSingle := rfl
@[simp] theorem State.setResetDue_nmiLatch : (s.setResetDue v).nmiLatch = s.nmiLatch := rfl
@[simp] theorem State.setResetDue_resetDue : (s.setResetDue v).resetDue = v := rfl
@[simp] theorem State.setResetDue_resCut : (s.setResetDue v).resCut = s.resCut := rfl
@[simp] theorem State.setResetDue_pins : (s.setResetDue v).pins = s.pins := rfl
@[simp] theorem State.setResetDue_inputs : (s.setResetDue v).inputs = s.inputs := rfl
@[simp] theorem State.setResetDue_bus : (s.setResetDue v).bus = s.bus := rfl
@[simp] theorem State.setResetDue_dma : (s.setResetDue v).dma = s.dma := rfl
@[simp] theorem State.setResetDue_stalls : (s.setResetDue v).stalls = s.stalls := rfl
@[simp] theorem State.setResetDue_tick : (s.setResetDue v).tick = s.tick := rfl
end

section
variable (s : State) (v : Bool)
@[simp] theorem State.setResCut_a : (s.setResCut v).a = s.a := rfl
@[simp] theorem State.setResCut_x : (s.setResCut v).x = s.x := rfl
@[simp] theorem State.setResCut_y : (s.setResCut v).y = s.y := rfl
@[simp] theorem State.setResCut_z : (s.setResCut v).z = s.z := rfl
@[simp] theorem State.setResCut_b : (s.setResCut v).b = s.b := rfl
@[simp] theorem State.setResCut_sp : (s.setResCut v).sp = s.sp := rfl
@[simp] theorem State.setResCut_pc : (s.setResCut v).pc = s.pc := rfl
@[simp] theorem State.setResCut_p : (s.setResCut v).p = s.p := rfl
@[simp] theorem State.setResCut_mem : (s.setResCut v).mem = s.mem := rfl
@[simp] theorem State.setResCut_cfg : (s.setResCut v).cfg = s.cfg := rfl
@[simp] theorem State.setResCut_lastSingle : (s.setResCut v).lastSingle = s.lastSingle := rfl
@[simp] theorem State.setResCut_nmiLatch : (s.setResCut v).nmiLatch = s.nmiLatch := rfl
@[simp] theorem State.setResCut_resetDue : (s.setResCut v).resetDue = s.resetDue := rfl
@[simp] theorem State.setResCut_resCut : (s.setResCut v).resCut = v := rfl
@[simp] theorem State.setResCut_pins : (s.setResCut v).pins = s.pins := rfl
@[simp] theorem State.setResCut_inputs : (s.setResCut v).inputs = s.inputs := rfl
@[simp] theorem State.setResCut_bus : (s.setResCut v).bus = s.bus := rfl
@[simp] theorem State.setResCut_dma : (s.setResCut v).dma = s.dma := rfl
@[simp] theorem State.setResCut_stalls : (s.setResCut v).stalls = s.stalls := rfl
@[simp] theorem State.setResCut_tick : (s.setResCut v).tick = s.tick := rfl
end

section
variable (s : State) (v : Pins)
@[simp] theorem State.setPins_a : (s.setPins v).a = s.a := rfl
@[simp] theorem State.setPins_x : (s.setPins v).x = s.x := rfl
@[simp] theorem State.setPins_y : (s.setPins v).y = s.y := rfl
@[simp] theorem State.setPins_z : (s.setPins v).z = s.z := rfl
@[simp] theorem State.setPins_b : (s.setPins v).b = s.b := rfl
@[simp] theorem State.setPins_sp : (s.setPins v).sp = s.sp := rfl
@[simp] theorem State.setPins_pc : (s.setPins v).pc = s.pc := rfl
@[simp] theorem State.setPins_p : (s.setPins v).p = s.p := rfl
@[simp] theorem State.setPins_mem : (s.setPins v).mem = s.mem := rfl
@[simp] theorem State.setPins_cfg : (s.setPins v).cfg = s.cfg := rfl
@[simp] theorem State.setPins_lastSingle : (s.setPins v).lastSingle = s.lastSingle := rfl
@[simp] theorem State.setPins_nmiLatch : (s.setPins v).nmiLatch = s.nmiLatch := rfl
@[simp] theorem State.setPins_resetDue : (s.setPins v).resetDue = s.resetDue := rfl
@[simp] theorem State.setPins_resCut : (s.setPins v).resCut = s.resCut := rfl
@[simp] theorem State.setPins_pins : (s.setPins v).pins = v := rfl
@[simp] theorem State.setPins_inputs : (s.setPins v).inputs = s.inputs := rfl
@[simp] theorem State.setPins_bus : (s.setPins v).bus = s.bus := rfl
@[simp] theorem State.setPins_dma : (s.setPins v).dma = s.dma := rfl
@[simp] theorem State.setPins_stalls : (s.setPins v).stalls = s.stalls := rfl
@[simp] theorem State.setPins_tick : (s.setPins v).tick = s.tick := rfl
end

section
variable (s : State) (v : List (List Input))
@[simp] theorem State.setInputs_a : (s.setInputs v).a = s.a := rfl
@[simp] theorem State.setInputs_x : (s.setInputs v).x = s.x := rfl
@[simp] theorem State.setInputs_y : (s.setInputs v).y = s.y := rfl
@[simp] theorem State.setInputs_z : (s.setInputs v).z = s.z := rfl
@[simp] theorem State.setInputs_b : (s.setInputs v).b = s.b := rfl
@[simp] theorem State.setInputs_sp : (s.setInputs v).sp = s.sp := rfl
@[simp] theorem State.setInputs_pc : (s.setInputs v).pc = s.pc := rfl
@[simp] theorem State.setInputs_p : (s.setInputs v).p = s.p := rfl
@[simp] theorem State.setInputs_mem : (s.setInputs v).mem = s.mem := rfl
@[simp] theorem State.setInputs_cfg : (s.setInputs v).cfg = s.cfg := rfl
@[simp] theorem State.setInputs_lastSingle : (s.setInputs v).lastSingle = s.lastSingle := rfl
@[simp] theorem State.setInputs_nmiLatch : (s.setInputs v).nmiLatch = s.nmiLatch := rfl
@[simp] theorem State.setInputs_resetDue : (s.setInputs v).resetDue = s.resetDue := rfl
@[simp] theorem State.setInputs_resCut : (s.setInputs v).resCut = s.resCut := rfl
@[simp] theorem State.setInputs_pins : (s.setInputs v).pins = s.pins := rfl
@[simp] theorem State.setInputs_inputs : (s.setInputs v).inputs = v := rfl
@[simp] theorem State.setInputs_bus : (s.setInputs v).bus = s.bus := rfl
@[simp] theorem State.setInputs_dma : (s.setInputs v).dma = s.dma := rfl
@[simp] theorem State.setInputs_stalls : (s.setInputs v).stalls = s.stalls := rfl
@[simp] theorem State.setInputs_tick : (s.setInputs v).tick = s.tick := rfl
end

section
variable (s : State) (v : List BusCycle)
@[simp] theorem State.setBus_a : (s.setBus v).a = s.a := rfl
@[simp] theorem State.setBus_x : (s.setBus v).x = s.x := rfl
@[simp] theorem State.setBus_y : (s.setBus v).y = s.y := rfl
@[simp] theorem State.setBus_z : (s.setBus v).z = s.z := rfl
@[simp] theorem State.setBus_b : (s.setBus v).b = s.b := rfl
@[simp] theorem State.setBus_sp : (s.setBus v).sp = s.sp := rfl
@[simp] theorem State.setBus_pc : (s.setBus v).pc = s.pc := rfl
@[simp] theorem State.setBus_p : (s.setBus v).p = s.p := rfl
@[simp] theorem State.setBus_mem : (s.setBus v).mem = s.mem := rfl
@[simp] theorem State.setBus_cfg : (s.setBus v).cfg = s.cfg := rfl
@[simp] theorem State.setBus_lastSingle : (s.setBus v).lastSingle = s.lastSingle := rfl
@[simp] theorem State.setBus_nmiLatch : (s.setBus v).nmiLatch = s.nmiLatch := rfl
@[simp] theorem State.setBus_resetDue : (s.setBus v).resetDue = s.resetDue := rfl
@[simp] theorem State.setBus_resCut : (s.setBus v).resCut = s.resCut := rfl
@[simp] theorem State.setBus_pins : (s.setBus v).pins = s.pins := rfl
@[simp] theorem State.setBus_inputs : (s.setBus v).inputs = s.inputs := rfl
@[simp] theorem State.setBus_bus : (s.setBus v).bus = v := rfl
@[simp] theorem State.setBus_dma : (s.setBus v).dma = s.dma := rfl
@[simp] theorem State.setBus_stalls : (s.setBus v).stalls = s.stalls := rfl
@[simp] theorem State.setBus_tick : (s.setBus v).tick = s.tick := rfl
end

section
variable (s : State) (v : List DmaWrite)
@[simp] theorem State.setDma_a : (s.setDma v).a = s.a := rfl
@[simp] theorem State.setDma_x : (s.setDma v).x = s.x := rfl
@[simp] theorem State.setDma_y : (s.setDma v).y = s.y := rfl
@[simp] theorem State.setDma_z : (s.setDma v).z = s.z := rfl
@[simp] theorem State.setDma_b : (s.setDma v).b = s.b := rfl
@[simp] theorem State.setDma_sp : (s.setDma v).sp = s.sp := rfl
@[simp] theorem State.setDma_pc : (s.setDma v).pc = s.pc := rfl
@[simp] theorem State.setDma_p : (s.setDma v).p = s.p := rfl
@[simp] theorem State.setDma_mem : (s.setDma v).mem = s.mem := rfl
@[simp] theorem State.setDma_cfg : (s.setDma v).cfg = s.cfg := rfl
@[simp] theorem State.setDma_lastSingle : (s.setDma v).lastSingle = s.lastSingle := rfl
@[simp] theorem State.setDma_nmiLatch : (s.setDma v).nmiLatch = s.nmiLatch := rfl
@[simp] theorem State.setDma_resetDue : (s.setDma v).resetDue = s.resetDue := rfl
@[simp] theorem State.setDma_resCut : (s.setDma v).resCut = s.resCut := rfl
@[simp] theorem State.setDma_pins : (s.setDma v).pins = s.pins := rfl
@[simp] theorem State.setDma_inputs : (s.setDma v).inputs = s.inputs := rfl
@[simp] theorem State.setDma_bus : (s.setDma v).bus = s.bus := rfl
@[simp] theorem State.setDma_dma : (s.setDma v).dma = v := rfl
@[simp] theorem State.setDma_stalls : (s.setDma v).stalls = s.stalls := rfl
@[simp] theorem State.setDma_tick : (s.setDma v).tick = s.tick := rfl
end

section
variable (s : State) (v : List BusSlot)
@[simp] theorem State.setStalls_a : (s.setStalls v).a = s.a := rfl
@[simp] theorem State.setStalls_x : (s.setStalls v).x = s.x := rfl
@[simp] theorem State.setStalls_y : (s.setStalls v).y = s.y := rfl
@[simp] theorem State.setStalls_z : (s.setStalls v).z = s.z := rfl
@[simp] theorem State.setStalls_b : (s.setStalls v).b = s.b := rfl
@[simp] theorem State.setStalls_sp : (s.setStalls v).sp = s.sp := rfl
@[simp] theorem State.setStalls_pc : (s.setStalls v).pc = s.pc := rfl
@[simp] theorem State.setStalls_p : (s.setStalls v).p = s.p := rfl
@[simp] theorem State.setStalls_mem : (s.setStalls v).mem = s.mem := rfl
@[simp] theorem State.setStalls_cfg : (s.setStalls v).cfg = s.cfg := rfl
@[simp] theorem State.setStalls_lastSingle : (s.setStalls v).lastSingle = s.lastSingle := rfl
@[simp] theorem State.setStalls_nmiLatch : (s.setStalls v).nmiLatch = s.nmiLatch := rfl
@[simp] theorem State.setStalls_resetDue : (s.setStalls v).resetDue = s.resetDue := rfl
@[simp] theorem State.setStalls_resCut : (s.setStalls v).resCut = s.resCut := rfl
@[simp] theorem State.setStalls_pins : (s.setStalls v).pins = s.pins := rfl
@[simp] theorem State.setStalls_inputs : (s.setStalls v).inputs = s.inputs := rfl
@[simp] theorem State.setStalls_bus : (s.setStalls v).bus = s.bus := rfl
@[simp] theorem State.setStalls_dma : (s.setStalls v).dma = s.dma := rfl
@[simp] theorem State.setStalls_stalls : (s.setStalls v).stalls = v := rfl
@[simp] theorem State.setStalls_tick : (s.setStalls v).tick = s.tick := rfl
end

section
variable (s : State) (v : Nat)
@[simp] theorem State.setTick_a : (s.setTick v).a = s.a := rfl
@[simp] theorem State.setTick_x : (s.setTick v).x = s.x := rfl
@[simp] theorem State.setTick_y : (s.setTick v).y = s.y := rfl
@[simp] theorem State.setTick_z : (s.setTick v).z = s.z := rfl
@[simp] theorem State.setTick_b : (s.setTick v).b = s.b := rfl
@[simp] theorem State.setTick_sp : (s.setTick v).sp = s.sp := rfl
@[simp] theorem State.setTick_pc : (s.setTick v).pc = s.pc := rfl
@[simp] theorem State.setTick_p : (s.setTick v).p = s.p := rfl
@[simp] theorem State.setTick_mem : (s.setTick v).mem = s.mem := rfl
@[simp] theorem State.setTick_cfg : (s.setTick v).cfg = s.cfg := rfl
@[simp] theorem State.setTick_lastSingle : (s.setTick v).lastSingle = s.lastSingle := rfl
@[simp] theorem State.setTick_nmiLatch : (s.setTick v).nmiLatch = s.nmiLatch := rfl
@[simp] theorem State.setTick_resetDue : (s.setTick v).resetDue = s.resetDue := rfl
@[simp] theorem State.setTick_resCut : (s.setTick v).resCut = s.resCut := rfl
@[simp] theorem State.setTick_pins : (s.setTick v).pins = s.pins := rfl
@[simp] theorem State.setTick_inputs : (s.setTick v).inputs = s.inputs := rfl
@[simp] theorem State.setTick_bus : (s.setTick v).bus = s.bus := rfl
@[simp] theorem State.setTick_dma : (s.setTick v).dma = s.dma := rfl
@[simp] theorem State.setTick_stalls : (s.setTick v).stalls = s.stalls := rfl
@[simp] theorem State.setTick_tick : (s.setTick v).tick = v := rfl
end

section
variable (s : State) (slot : BusSlot) (a : Word) (v : Byte)
@[simp] theorem State.write_a : (s.write slot a v).a = s.a := rfl
@[simp] theorem State.write_x : (s.write slot a v).x = s.x := rfl
@[simp] theorem State.write_y : (s.write slot a v).y = s.y := rfl
@[simp] theorem State.write_z : (s.write slot a v).z = s.z := rfl
@[simp] theorem State.write_b : (s.write slot a v).b = s.b := rfl
@[simp] theorem State.write_sp : (s.write slot a v).sp = s.sp := rfl
@[simp] theorem State.write_pc : (s.write slot a v).pc = s.pc := rfl
@[simp] theorem State.write_p : (s.write slot a v).p = s.p := rfl
@[simp] theorem State.write_mem : (s.write slot a v).mem = s.memAfter a v := rfl
@[simp] theorem State.write_cfg : (s.write slot a v).cfg = s.cfg := rfl
@[simp] theorem State.write_lastSingle : (s.write slot a v).lastSingle = s.lastSingle := rfl
@[simp] theorem State.write_nmiLatch : (s.write slot a v).nmiLatch = s.nmiLatch := rfl
@[simp] theorem State.write_resetDue : (s.write slot a v).resetDue = s.resetDue := rfl
@[simp] theorem State.write_resCut : (s.write slot a v).resCut = s.resCut := rfl
@[simp] theorem State.write_pins : (s.write slot a v).pins = s.pins := rfl
@[simp] theorem State.write_inputs : (s.write slot a v).inputs = s.inputs := rfl
@[simp] theorem State.write_bus : (s.write slot a v).bus = s.bus ++ [writeCycle slot a v] := rfl
@[simp] theorem State.write_dma : (s.write slot a v).dma = s.dmaAfter slot a := rfl
@[simp] theorem State.write_stalls : (s.write slot a v).stalls = s.stalls := rfl
@[simp] theorem State.write_tick : (s.write slot a v).tick = s.tick := rfl
@[simp] theorem State.poke_a : (s.poke a v).a = s.a := rfl
@[simp] theorem State.poke_x : (s.poke a v).x = s.x := rfl
@[simp] theorem State.poke_y : (s.poke a v).y = s.y := rfl
@[simp] theorem State.poke_z : (s.poke a v).z = s.z := rfl
@[simp] theorem State.poke_b : (s.poke a v).b = s.b := rfl
@[simp] theorem State.poke_sp : (s.poke a v).sp = s.sp := rfl
@[simp] theorem State.poke_pc : (s.poke a v).pc = s.pc := rfl
@[simp] theorem State.poke_p : (s.poke a v).p = s.p := rfl
@[simp] theorem State.poke_mem : (s.poke a v).mem = s.memAfter a v := rfl
@[simp] theorem State.poke_cfg : (s.poke a v).cfg = s.cfg := rfl
@[simp] theorem State.poke_lastSingle : (s.poke a v).lastSingle = s.lastSingle := rfl
@[simp] theorem State.poke_nmiLatch : (s.poke a v).nmiLatch = s.nmiLatch := rfl
@[simp] theorem State.poke_resetDue : (s.poke a v).resetDue = s.resetDue := rfl
@[simp] theorem State.poke_resCut : (s.poke a v).resCut = s.resCut := rfl
@[simp] theorem State.poke_pins : (s.poke a v).pins = s.pins := rfl
@[simp] theorem State.poke_inputs : (s.poke a v).inputs = s.inputs := rfl
@[simp] theorem State.poke_bus : (s.poke a v).bus = s.bus := rfl
@[simp] theorem State.poke_dma : (s.poke a v).dma = s.dma := rfl
@[simp] theorem State.poke_stalls : (s.poke a v).stalls = s.stalls := rfl
@[simp] theorem State.poke_tick : (s.poke a v).tick = s.tick := rfl
@[simp] theorem State.push_a : (s.push slot v).a = s.a := rfl
@[simp] theorem State.push_x : (s.push slot v).x = s.x := rfl
@[simp] theorem State.push_y : (s.push slot v).y = s.y := rfl
@[simp] theorem State.push_z : (s.push slot v).z = s.z := rfl
@[simp] theorem State.push_b : (s.push slot v).b = s.b := rfl
@[simp] theorem State.push_sp : (s.push slot v).sp = spDown s.p.e s.sp 1 := rfl
@[simp] theorem State.push_pc : (s.push slot v).pc = s.pc := rfl
@[simp] theorem State.push_p : (s.push slot v).p = s.p := rfl
@[simp] theorem State.push_mem : (s.push slot v).mem = s.memAfter s.sp v := rfl
@[simp] theorem State.push_cfg : (s.push slot v).cfg = s.cfg := rfl
@[simp] theorem State.push_lastSingle : (s.push slot v).lastSingle = s.lastSingle := rfl
@[simp] theorem State.push_nmiLatch : (s.push slot v).nmiLatch = s.nmiLatch := rfl
@[simp] theorem State.push_resetDue : (s.push slot v).resetDue = s.resetDue := rfl
@[simp] theorem State.push_resCut : (s.push slot v).resCut = s.resCut := rfl
@[simp] theorem State.push_pins : (s.push slot v).pins = s.pins := rfl
@[simp] theorem State.push_inputs : (s.push slot v).inputs = s.inputs := rfl
@[simp] theorem State.push_bus : (s.push slot v).bus = s.bus ++ [writeCycle slot s.sp v] := rfl
@[simp] theorem State.push_dma : (s.push slot v).dma = s.dmaAfter slot s.sp := rfl
@[simp] theorem State.push_stalls : (s.push slot v).stalls = s.stalls := rfl
@[simp] theorem State.push_tick : (s.push slot v).tick = s.tick := rfl
@[simp] theorem State.incSp_a : s.incSp.a = s.a := rfl
@[simp] theorem State.incSp_x : s.incSp.x = s.x := rfl
@[simp] theorem State.incSp_y : s.incSp.y = s.y := rfl
@[simp] theorem State.incSp_z : s.incSp.z = s.z := rfl
@[simp] theorem State.incSp_b : s.incSp.b = s.b := rfl
@[simp] theorem State.incSp_sp : s.incSp.sp = spUp s.p.e s.sp 1 := rfl
@[simp] theorem State.incSp_pc : s.incSp.pc = s.pc := rfl
@[simp] theorem State.incSp_p : s.incSp.p = s.p := rfl
@[simp] theorem State.incSp_mem : s.incSp.mem = s.mem := rfl
@[simp] theorem State.incSp_cfg : s.incSp.cfg = s.cfg := rfl
@[simp] theorem State.incSp_lastSingle : s.incSp.lastSingle = s.lastSingle := rfl
@[simp] theorem State.incSp_nmiLatch : s.incSp.nmiLatch = s.nmiLatch := rfl
@[simp] theorem State.incSp_resetDue : s.incSp.resetDue = s.resetDue := rfl
@[simp] theorem State.incSp_resCut : s.incSp.resCut = s.resCut := rfl
@[simp] theorem State.incSp_pins : s.incSp.pins = s.pins := rfl
@[simp] theorem State.incSp_inputs : s.incSp.inputs = s.inputs := rfl
@[simp] theorem State.incSp_bus : s.incSp.bus = s.bus := rfl
@[simp] theorem State.incSp_dma : s.incSp.dma = s.dma := rfl
@[simp] theorem State.incSp_stalls : s.incSp.stalls = s.stalls := rfl
@[simp] theorem State.incSp_tick : s.incSp.tick = s.tick := rfl
@[simp] theorem State.adjustSp_a : (s.adjustSp v).a = s.a := rfl
@[simp] theorem State.adjustSp_x : (s.adjustSp v).x = s.x := rfl
@[simp] theorem State.adjustSp_y : (s.adjustSp v).y = s.y := rfl
@[simp] theorem State.adjustSp_z : (s.adjustSp v).z = s.z := rfl
@[simp] theorem State.adjustSp_b : (s.adjustSp v).b = s.b := rfl
@[simp] theorem State.adjustSp_sp : (s.adjustSp v).sp = spUp s.p.e s.sp v := rfl
@[simp] theorem State.adjustSp_pc : (s.adjustSp v).pc = s.pc := rfl
@[simp] theorem State.adjustSp_p : (s.adjustSp v).p = s.p := rfl
@[simp] theorem State.adjustSp_mem : (s.adjustSp v).mem = s.mem := rfl
@[simp] theorem State.adjustSp_cfg : (s.adjustSp v).cfg = s.cfg := rfl
@[simp] theorem State.adjustSp_lastSingle : (s.adjustSp v).lastSingle = s.lastSingle := rfl
@[simp] theorem State.adjustSp_nmiLatch : (s.adjustSp v).nmiLatch = s.nmiLatch := rfl
@[simp] theorem State.adjustSp_resetDue : (s.adjustSp v).resetDue = s.resetDue := rfl
@[simp] theorem State.adjustSp_resCut : (s.adjustSp v).resCut = s.resCut := rfl
@[simp] theorem State.adjustSp_pins : (s.adjustSp v).pins = s.pins := rfl
@[simp] theorem State.adjustSp_inputs : (s.adjustSp v).inputs = s.inputs := rfl
@[simp] theorem State.adjustSp_bus : (s.adjustSp v).bus = s.bus := rfl
@[simp] theorem State.adjustSp_dma : (s.adjustSp v).dma = s.dma := rfl
@[simp] theorem State.adjustSp_stalls : (s.adjustSp v).stalls = s.stalls := rfl
@[simp] theorem State.adjustSp_tick : (s.adjustSp v).tick = s.tick := rfl
end

end Sys2Proof.Machine
end

