-- ==== Sys2Proof/Laws/Memory.lean ====
section
/-! SUPPORT. Memory: what one write does to every read, and that the canonical form is kept; the same
for the read and write cycles of the machine. -/

namespace Sys2Proof.Machine

theorem Memory.wfAbove_mono {lo hi : Nat} (h : lo ≤ hi) :
    ∀ m, Memory.wfAbove hi m = true → Memory.wfAbove lo m = true
  | [], _ => rfl
  | (k, v) :: m, hm => by
    simp only [Memory.wfAbove, Bool.and_eq_true, decide_eq_true_eq] at hm ⊢
    exact ⟨⟨⟨by omega, hm.1.1.2⟩, hm.1.2⟩, hm.2⟩

/-- An address below every listed one reads as unlisted. -/
theorem Memory.read_below {a : Nat} :
    ∀ {lo : Nat} (m : Memory), Memory.wfAbove lo m = true → a < lo → m.read a = unlistedByte
  | _, [], _, _ => rfl
  | lo, (k, v) :: m, hm, h => by
    simp only [Memory.wfAbove, Bool.and_eq_true, decide_eq_true_eq] at hm
    have hk : k ≠ a := by omega
    rw [Memory.read, if_neg hk]
    exact Memory.read_below m hm.2 (by omega)

/-- A write leaves every other address alone. -/
theorem Memory.read_write_other {a b : Nat} (h : b ≠ a) (v : Byte) :
    ∀ m : Memory, (m.write a v).read b = m.read b
  | [] => by
    by_cases hv : v = unlistedByte <;> simp [Memory.write, Memory.read, hv, h.symm]
  | (k, w) :: m => by
    have ih := Memory.read_write_other h v m
    rw [Memory.write]
    split_ifs with h1 h2 h3 h4
    · rfl
    · rw [Memory.read, if_neg h.symm]
    · rw [Memory.read, if_neg (by omega)]
    · rw [Memory.read, Memory.read, if_neg h.symm, if_neg (by omega)]
    · simp only [Memory.read, ih]

/-- A read after a write gives the value written. -/
theorem Memory.read_write_same {a : Nat} (v : Byte) :
    ∀ {lo : Nat} (m : Memory), Memory.wfAbove lo m = true → (m.write a v).read a = v
  | _, [], _ => by
    by_cases hv : v = unlistedByte <;> simp [Memory.write, Memory.read, hv]
  | lo, (k, w) :: m, hm => by
    have hm' := hm
    simp only [Memory.wfAbove, Bool.and_eq_true, decide_eq_true_eq] at hm'
    rw [Memory.write]
    split_ifs with h1 h2 h3 h4
    · rw [Memory.read, if_neg (by omega), Memory.read_below m hm'.2 (by omega), h2]
    · rw [Memory.read, if_pos rfl]
    · rw [Memory.read_below m hm'.2 (by omega), h4]
    · rw [Memory.read, if_pos rfl]
    · rw [Memory.read, if_neg (by omega)]
      exact Memory.read_write_same v m hm'.2

theorem Memory.wfAbove_write {a : Nat} (ha : a < 65536) (v : Byte) :
    ∀ {lo : Nat} (m : Memory), lo ≤ a → Memory.wfAbove lo m = true →
      Memory.wfAbove lo (m.write a v) = true
  | lo, [], hlo, _ => by
    by_cases hv : v = unlistedByte <;> simp [Memory.write, Memory.wfAbove, hv, hlo, ha]
  | lo, (k, w) :: m, hlo, hm => by
    have hm' := hm
    simp only [Memory.wfAbove, Bool.and_eq_true, decide_eq_true_eq] at hm'
    rw [Memory.write]
    split_ifs with h1 h2 h3 h4
    · exact hm
    · simp only [Memory.wfAbove, Bool.and_eq_true, decide_eq_true_eq, bne_iff_ne]
      exact ⟨⟨⟨hlo, ha⟩, h2⟩, ⟨⟨by omega, hm'.1.1.2⟩, by simpa using hm'.1.2⟩, hm'.2⟩
    · exact Memory.wfAbove_mono (by omega) m hm'.2
    · simp only [Memory.wfAbove, Bool.and_eq_true, decide_eq_true_eq, bne_iff_ne]
      exact ⟨⟨⟨hlo, ha⟩, h4⟩, h3 ▸ hm'.2⟩
    · simp only [Memory.wfAbove, Bool.and_eq_true, decide_eq_true_eq]
      exact ⟨hm'.1, Memory.wfAbove_write ha v m (by omega) hm'.2⟩

/-- A write keeps the canonical form. -/
theorem Memory.wf_write {m : Memory} {a : Nat} (ha : a < 65536) (v : Byte) (hm : m.wf = true) :
    (m.write a v).wf = true := Memory.wfAbove_write ha v m (Nat.zero_le _) hm

/-- A write by any master keeps the canonical form, whatever answers the address. -/
theorem State.wf_memAfter {s : State} (a : Word) (v : Byte) (h : s.mem.wf = true) :
    (s.memAfter a v).wf = true := by
  unfold State.memAfter
  split
  · exact Memory.wf_write a.isLt v h
  all_goals exact h

theorem State.wf_write {s : State} (slot : BusSlot) (a : Word) (v : Byte) (h : s.mem.wf = true) :
    (s.write slot a v).mem.wf = true := State.wf_memAfter a v h

@[simp] theorem State.answer_write (s : State) (slot : BusSlot) (a b : Word) (v : Byte) :
    (s.write slot a v).answer b = s.answer b := rfl

/-! ## The writes of other bus masters -/

theorem dmaByte_eq_self {slot : BusSlot} {a : Word} :
    ∀ (ws : List DmaWrite) (v : Byte), (∀ w ∈ ws, w.hits slot a = false) → dmaByte slot a ws v = v
  | [], _, _ => rfl
  | w :: ws, v, h => by
    rw [dmaByte, h w List.mem_cons_self, if_neg Bool.false_ne_true]
    exact dmaByte_eq_self ws v fun w' hw' => h w' (List.mem_cons_of_mem _ hw')

/-- What other masters put at another address is not touched by a write. -/
theorem dmaByte_filter_other {slot slot' : BusSlot} {a b : Word} (h : b ≠ a) :
    ∀ (ws : List DmaWrite) (v : Byte),
      dmaByte slot' b (ws.filter fun w => !w.hits slot a) v = dmaByte slot' b ws v
  | [], _ => rfl
  | w :: ws, v => by
    rw [List.filter_cons]
    split
    · simp only [dmaByte]
      exact dmaByte_filter_other h ws _
    · rename_i hw
      have ha : w.address = a := by
        simp only [DmaWrite.hits, Bool.not_eq_true', Bool.not_eq_false, Bool.and_eq_true,
          beq_iff_eq] at hw
        exact hw.1
      have hb : w.hits slot' b = false := by
        simp [DmaWrite.hits, ha, h.symm]
      rw [dmaByte, hb, if_neg Bool.false_ne_true]
      exact dmaByte_filter_other h ws v

@[simp] theorem State.dmaAfter_nil {s : State} (h : s.dma = []) (slot : BusSlot) (a : Word) :
    s.dmaAfter slot a = [] := by simp [State.dmaAfter, h]

/-! ## Read and write cycles -/

/-- A write cycle changes no read of another address. -/
theorem State.read_write_other {s : State} {a b : Word} (h : b ≠ a) (v : Byte)
    (slot slot' : BusSlot) : (s.write slot a v).read slot' b = s.read slot' b := by
  have hn : b.toNat ≠ a.toNat := fun e => h (BitVec.eq_of_toNat_eq e)
  have hm : Memory.read (s.memAfter a v) b.toNat = Memory.read s.mem b.toNat := by
    unfold State.memAfter
    split <;> simp [Memory.read_write_other hn]
  unfold State.read
  rw [State.answer_write]
  cases s.answer b <;>
    simp only [State.write_mem, State.write_tick, State.write_dma, State.dmaAfter, hm,
      dmaByte_filter_other h]

/-- In RAM, a read after a write gives the value written, unless another master writes there between
the two cycles. -/
theorem State.read_write_same {s : State} {a : Word} (hram : s.answer a = .ram)
    (h : s.mem.wf = true) (v : Byte) {slot slot' : BusSlot}
    (hd : ∀ w ∈ s.dma, w.hits slot' a = true → w.hits slot a = true) :
    (s.write slot a v).read slot' a = v := by
  have hr : Memory.read (s.memAfter a v) a.toNat = v := by
    simp only [State.memAfter, hram]
    exact Memory.read_write_same v s.mem h
  unfold State.read
  rw [State.answer_write, hram]
  simp only [State.write_mem, State.write_dma, State.dmaAfter, hr]
  apply dmaByte_eq_self
  intro w hw
  have hw' := List.mem_filter.mp hw
  cases hs : w.hits slot' a with
  | false => rfl
  | true => simp [hd w hw'.1 hs] at hw'

/-- A write cycle that RAM does not answer leaves memory as it is (R63). -/
theorem State.memAfter_not_ram {s : State} {a : Word} (h : s.answer a ≠ .ram) (v : Byte) :
    s.memAfter a v = s.mem := by
  unfold State.memAfter
  cases ha : s.answer a with
  | ram => exact absurd ha h
  | rom => rfl
  | device => rfl
  | nothing => rfl

/-- What one write cycle can do, once and for all: the byte at its address, only in RAM; the cycle
stands in the bus record. -/
theorem State.write_spec (s : State) (slot : BusSlot) (a : Word) (v : Byte)
    (h : s.mem.wf = true) :
    (s.write slot a v).mem.wf = true ∧
      (∀ slot' b, b ≠ a → (s.write slot a v).read slot' b = s.read slot' b) ∧
      (s.answer a = .ram → (s.write slot a v).read slot a = v) ∧
      (s.answer a ≠ .ram → (s.write slot a v).mem = s.mem) ∧
      (s.write slot a v).bus = s.bus ++ [writeCycle slot a v] :=
  ⟨State.wf_write slot a v h, fun _ _ hb => State.read_write_other hb v _ _,
    fun hr => State.read_write_same hr h v fun _ _ hw => hw,
    fun hn => State.memAfter_not_ram hn v, rfl⟩

/-- A read depends on memory, what other masters write, the map and the counter only. -/
theorem State.read_congr {s t : State} (hm : s.mem = t.mem) (hd : s.dma = t.dma)
    (hc : s.cfg = t.cfg) (ht : s.tick = t.tick) (slot : BusSlot) (a : Word) :
    s.read slot a = t.read slot a := by
  simp only [State.read, State.answer, hm, hd, hc, ht]

/-! ## The end of a step -/

/-- What the other masters' writes do to a state: memory only, and its canonical form is kept. -/
theorem foldl_poke_spec (ws : List DmaWrite) (s : State) :
    (∃ m, ws.foldl (fun t w => t.poke w.address w.value) s = { s with mem := m }) ∧
      (s.mem.wf = true →
        (ws.foldl (fun t w => t.poke w.address w.value) s).mem.wf = true) := by
  induction ws generalizing s with
  | nil => exact ⟨⟨s.mem, rfl⟩, id⟩
  | cons w ws ih =>
    obtain ⟨⟨m, hm⟩, hw⟩ := ih (s.poke w.address w.value)
    exact ⟨⟨m, hm⟩, fun h => hw (State.wf_memAfter _ _ h)⟩

/-- At the end of a step memory holds what other masters wrote, and nothing of theirs is pending. -/
theorem State.landDma_eq (s : State) :
    s.landDma = { s with mem := s.landDma.mem, dma := [], stalls := [] } := by
  obtain ⟨⟨m, hm⟩, _⟩ := foldl_poke_spec s.dma s
  simp only [State.landDma, hm]
  rfl

theorem State.wf_landDma {s : State} (h : s.mem.wf = true) : s.landDma.mem.wf = true :=
  (foldl_poke_spec s.dma s).2 h

/-- Where no other master wrote, the end of a step leaves memory as it is. -/
theorem State.landDma_of_nil {s : State} (h : s.dma = []) :
    s.landDma = { s with dma := [], stalls := [] } := by
  simp only [State.landDma, h]
  rfl

end Sys2Proof.Machine
end

