-- ==== Sys2Proof/Laws/PerInstr.lean ====
section
/-! SUPPORT. Facts about every instruction as syntax, one lemma per constructor. -/

namespace Sys2Proof.Laws.EncodedLength

/-- An instruction's encoding has as many bytes as the matrix gives its opcode (R90, R95). -/
def Statement (i : Instr) : Prop := (encode i).length = i.length

theorem of_opcode {i : Instr} (op : Byte) (n : Nat) (hop : i.opcode = op)
    (hlen : (encode i).length = n) (h : opcodeLength op = n) : Statement i := by
  rw [Statement, Instr.length, hop, hlen, h]

theorem brk (sig : Byte) : Statement (.brk sig) := of_opcode 0x00 2 rfl rfl rfl
theorem oraBpXInd (d : Byte) : Statement (.oraBpXInd d) := of_opcode 0x01 2 rfl rfl rfl
theorem cle : Statement (.cle) := of_opcode 0x02 1 rfl rfl rfl
theorem see : Statement (.see) := of_opcode 0x03 1 rfl rfl rfl
theorem tsbBp (d : Byte) : Statement (.tsbBp d) := of_opcode 0x04 2 rfl rfl rfl
theorem oraBp (d : Byte) : Statement (.oraBp d) := of_opcode 0x05 2 rfl rfl rfl
theorem aslBp (d : Byte) : Statement (.aslBp d) := of_opcode 0x06 2 rfl rfl rfl
theorem rmb0 (d : Byte) : Statement (.rmb0 d) := of_opcode 0x07 2 rfl rfl rfl
theorem php : Statement (.php) := of_opcode 0x08 1 rfl rfl rfl
theorem oraImm (m : Byte) : Statement (.oraImm m) := of_opcode 0x09 2 rfl rfl rfl
theorem aslA : Statement (.aslA) := of_opcode 0x0A 1 rfl rfl rfl
theorem tsy : Statement (.tsy) := of_opcode 0x0B 1 rfl rfl rfl
theorem tsbAbs (w : Word) : Statement (.tsbAbs w) := of_opcode 0x0C 3 rfl rfl rfl
theorem oraAbs (w : Word) : Statement (.oraAbs w) := of_opcode 0x0D 3 rfl rfl rfl
theorem aslAbs (w : Word) : Statement (.aslAbs w) := of_opcode 0x0E 3 rfl rfl rfl
theorem bbr0 (d : Byte) (r : Byte) : Statement (.bbr0 d r) := of_opcode 0x0F 3 rfl rfl rfl
theorem bplRel (r : Byte) : Statement (.bplRel r) := of_opcode 0x10 2 rfl rfl rfl
theorem oraBpIndY (d : Byte) : Statement (.oraBpIndY d) := of_opcode 0x11 2 rfl rfl rfl
theorem oraBpIndZ (d : Byte) : Statement (.oraBpIndZ d) := of_opcode 0x12 2 rfl rfl rfl
theorem bplWrel (w : Word) : Statement (.bplWrel w) := of_opcode 0x13 3 rfl rfl rfl
theorem trbBp (d : Byte) : Statement (.trbBp d) := of_opcode 0x14 2 rfl rfl rfl
theorem oraBpX (d : Byte) : Statement (.oraBpX d) := of_opcode 0x15 2 rfl rfl rfl
theorem aslBpX (d : Byte) : Statement (.aslBpX d) := of_opcode 0x16 2 rfl rfl rfl
theorem rmb1 (d : Byte) : Statement (.rmb1 d) := of_opcode 0x17 2 rfl rfl rfl
theorem clc : Statement (.clc) := of_opcode 0x18 1 rfl rfl rfl
theorem oraAbsY (w : Word) : Statement (.oraAbsY w) := of_opcode 0x19 3 rfl rfl rfl
theorem incA : Statement (.incA) := of_opcode 0x1A 1 rfl rfl rfl
theorem inz : Statement (.inz) := of_opcode 0x1B 1 rfl rfl rfl
theorem trbAbs (w : Word) : Statement (.trbAbs w) := of_opcode 0x1C 3 rfl rfl rfl
theorem oraAbsX (w : Word) : Statement (.oraAbsX w) := of_opcode 0x1D 3 rfl rfl rfl
theorem aslAbsX (w : Word) : Statement (.aslAbsX w) := of_opcode 0x1E 3 rfl rfl rfl
theorem bbr1 (d : Byte) (r : Byte) : Statement (.bbr1 d r) := of_opcode 0x1F 3 rfl rfl rfl
theorem jsrAbs (w : Word) : Statement (.jsrAbs w) := of_opcode 0x20 3 rfl rfl rfl
theorem andBpXInd (d : Byte) : Statement (.andBpXInd d) := of_opcode 0x21 2 rfl rfl rfl
theorem jsrAbsInd (w : Word) : Statement (.jsrAbsInd w) := of_opcode 0x22 3 rfl rfl rfl
theorem jsrAbsXInd (w : Word) : Statement (.jsrAbsXInd w) := of_opcode 0x23 3 rfl rfl rfl
theorem bitBp (d : Byte) : Statement (.bitBp d) := of_opcode 0x24 2 rfl rfl rfl
theorem andBp (d : Byte) : Statement (.andBp d) := of_opcode 0x25 2 rfl rfl rfl
theorem rolBp (d : Byte) : Statement (.rolBp d) := of_opcode 0x26 2 rfl rfl rfl
theorem rmb2 (d : Byte) : Statement (.rmb2 d) := of_opcode 0x27 2 rfl rfl rfl
theorem plp : Statement (.plp) := of_opcode 0x28 1 rfl rfl rfl
theorem andImm (m : Byte) : Statement (.andImm m) := of_opcode 0x29 2 rfl rfl rfl
theorem rolA : Statement (.rolA) := of_opcode 0x2A 1 rfl rfl rfl
theorem tys : Statement (.tys) := of_opcode 0x2B 1 rfl rfl rfl
theorem bitAbs (w : Word) : Statement (.bitAbs w) := of_opcode 0x2C 3 rfl rfl rfl
theorem andAbs (w : Word) : Statement (.andAbs w) := of_opcode 0x2D 3 rfl rfl rfl
theorem rolAbs (w : Word) : Statement (.rolAbs w) := of_opcode 0x2E 3 rfl rfl rfl
theorem bbr2 (d : Byte) (r : Byte) : Statement (.bbr2 d r) := of_opcode 0x2F 3 rfl rfl rfl
theorem bmiRel (r : Byte) : Statement (.bmiRel r) := of_opcode 0x30 2 rfl rfl rfl
theorem andBpIndY (d : Byte) : Statement (.andBpIndY d) := of_opcode 0x31 2 rfl rfl rfl
theorem andBpIndZ (d : Byte) : Statement (.andBpIndZ d) := of_opcode 0x32 2 rfl rfl rfl
theorem bmiWrel (w : Word) : Statement (.bmiWrel w) := of_opcode 0x33 3 rfl rfl rfl
theorem bitBpX (d : Byte) : Statement (.bitBpX d) := of_opcode 0x34 2 rfl rfl rfl
theorem andBpX (d : Byte) : Statement (.andBpX d) := of_opcode 0x35 2 rfl rfl rfl
theorem rolBpX (d : Byte) : Statement (.rolBpX d) := of_opcode 0x36 2 rfl rfl rfl
theorem rmb3 (d : Byte) : Statement (.rmb3 d) := of_opcode 0x37 2 rfl rfl rfl
theorem sec : Statement (.sec) := of_opcode 0x38 1 rfl rfl rfl
theorem andAbsY (w : Word) : Statement (.andAbsY w) := of_opcode 0x39 3 rfl rfl rfl
theorem decA : Statement (.decA) := of_opcode 0x3A 1 rfl rfl rfl
theorem dez : Statement (.dez) := of_opcode 0x3B 1 rfl rfl rfl
theorem bitAbsX (w : Word) : Statement (.bitAbsX w) := of_opcode 0x3C 3 rfl rfl rfl
theorem andAbsX (w : Word) : Statement (.andAbsX w) := of_opcode 0x3D 3 rfl rfl rfl
theorem rolAbsX (w : Word) : Statement (.rolAbsX w) := of_opcode 0x3E 3 rfl rfl rfl
theorem bbr3 (d : Byte) (r : Byte) : Statement (.bbr3 d r) := of_opcode 0x3F 3 rfl rfl rfl
theorem rti : Statement (.rti) := of_opcode 0x40 1 rfl rfl rfl
theorem eorBpXInd (d : Byte) : Statement (.eorBpXInd d) := of_opcode 0x41 2 rfl rfl rfl
theorem neg : Statement (.neg) := of_opcode 0x42 1 rfl rfl rfl
theorem asrA : Statement (.asrA) := of_opcode 0x43 1 rfl rfl rfl
theorem asrBp (d : Byte) : Statement (.asrBp d) := of_opcode 0x44 2 rfl rfl rfl
theorem eorBp (d : Byte) : Statement (.eorBp d) := of_opcode 0x45 2 rfl rfl rfl
theorem lsrBp (d : Byte) : Statement (.lsrBp d) := of_opcode 0x46 2 rfl rfl rfl
theorem rmb4 (d : Byte) : Statement (.rmb4 d) := of_opcode 0x47 2 rfl rfl rfl
theorem pha : Statement (.pha) := of_opcode 0x48 1 rfl rfl rfl
theorem eorImm (m : Byte) : Statement (.eorImm m) := of_opcode 0x49 2 rfl rfl rfl
theorem lsrA : Statement (.lsrA) := of_opcode 0x4A 1 rfl rfl rfl
theorem taz : Statement (.taz) := of_opcode 0x4B 1 rfl rfl rfl
theorem jmpAbs (w : Word) : Statement (.jmpAbs w) := of_opcode 0x4C 3 rfl rfl rfl
theorem eorAbs (w : Word) : Statement (.eorAbs w) := of_opcode 0x4D 3 rfl rfl rfl
theorem lsrAbs (w : Word) : Statement (.lsrAbs w) := of_opcode 0x4E 3 rfl rfl rfl
theorem bbr4 (d : Byte) (r : Byte) : Statement (.bbr4 d r) := of_opcode 0x4F 3 rfl rfl rfl
theorem bvcRel (r : Byte) : Statement (.bvcRel r) := of_opcode 0x50 2 rfl rfl rfl
theorem eorBpIndY (d : Byte) : Statement (.eorBpIndY d) := of_opcode 0x51 2 rfl rfl rfl
theorem eorBpIndZ (d : Byte) : Statement (.eorBpIndZ d) := of_opcode 0x52 2 rfl rfl rfl
theorem bvcWrel (w : Word) : Statement (.bvcWrel w) := of_opcode 0x53 3 rfl rfl rfl
theorem asrBpX (d : Byte) : Statement (.asrBpX d) := of_opcode 0x54 2 rfl rfl rfl
theorem eorBpX (d : Byte) : Statement (.eorBpX d) := of_opcode 0x55 2 rfl rfl rfl
theorem lsrBpX (d : Byte) : Statement (.lsrBpX d) := of_opcode 0x56 2 rfl rfl rfl
theorem rmb5 (d : Byte) : Statement (.rmb5 d) := of_opcode 0x57 2 rfl rfl rfl
theorem cli : Statement (.cli) := of_opcode 0x58 1 rfl rfl rfl
theorem eorAbsY (w : Word) : Statement (.eorAbsY w) := of_opcode 0x59 3 rfl rfl rfl
theorem phy : Statement (.phy) := of_opcode 0x5A 1 rfl rfl rfl
theorem tab : Statement (.tab) := of_opcode 0x5B 1 rfl rfl rfl
theorem aug (b1 : Byte) (b2 : Byte) (b3 : Byte) : Statement (.aug b1 b2 b3) := of_opcode 0x5C 4 rfl rfl rfl
theorem eorAbsX (w : Word) : Statement (.eorAbsX w) := of_opcode 0x5D 3 rfl rfl rfl
theorem lsrAbsX (w : Word) : Statement (.lsrAbsX w) := of_opcode 0x5E 3 rfl rfl rfl
theorem bbr5 (d : Byte) (r : Byte) : Statement (.bbr5 d r) := of_opcode 0x5F 3 rfl rfl rfl
theorem rts : Statement (.rts) := of_opcode 0x60 1 rfl rfl rfl
theorem adcBpXInd (d : Byte) : Statement (.adcBpXInd d) := of_opcode 0x61 2 rfl rfl rfl
theorem rtn (n : Byte) : Statement (.rtn n) := of_opcode 0x62 2 rfl rfl rfl
theorem bsr (w : Word) : Statement (.bsr w) := of_opcode 0x63 3 rfl rfl rfl
theorem stzBp (d : Byte) : Statement (.stzBp d) := of_opcode 0x64 2 rfl rfl rfl
theorem adcBp (d : Byte) : Statement (.adcBp d) := of_opcode 0x65 2 rfl rfl rfl
theorem rorBp (d : Byte) : Statement (.rorBp d) := of_opcode 0x66 2 rfl rfl rfl
theorem rmb6 (d : Byte) : Statement (.rmb6 d) := of_opcode 0x67 2 rfl rfl rfl
theorem pla : Statement (.pla) := of_opcode 0x68 1 rfl rfl rfl
theorem adcImm (m : Byte) : Statement (.adcImm m) := of_opcode 0x69 2 rfl rfl rfl
theorem rorA : Statement (.rorA) := of_opcode 0x6A 1 rfl rfl rfl
theorem tza : Statement (.tza) := of_opcode 0x6B 1 rfl rfl rfl
theorem jmpAbsInd (w : Word) : Statement (.jmpAbsInd w) := of_opcode 0x6C 3 rfl rfl rfl
theorem adcAbs (w : Word) : Statement (.adcAbs w) := of_opcode 0x6D 3 rfl rfl rfl
theorem rorAbs (w : Word) : Statement (.rorAbs w) := of_opcode 0x6E 3 rfl rfl rfl
theorem bbr6 (d : Byte) (r : Byte) : Statement (.bbr6 d r) := of_opcode 0x6F 3 rfl rfl rfl
theorem bvsRel (r : Byte) : Statement (.bvsRel r) := of_opcode 0x70 2 rfl rfl rfl
theorem adcBpIndY (d : Byte) : Statement (.adcBpIndY d) := of_opcode 0x71 2 rfl rfl rfl
theorem adcBpIndZ (d : Byte) : Statement (.adcBpIndZ d) := of_opcode 0x72 2 rfl rfl rfl
theorem bvsWrel (w : Word) : Statement (.bvsWrel w) := of_opcode 0x73 3 rfl rfl rfl
theorem stzBpX (d : Byte) : Statement (.stzBpX d) := of_opcode 0x74 2 rfl rfl rfl
theorem adcBpX (d : Byte) : Statement (.adcBpX d) := of_opcode 0x75 2 rfl rfl rfl
theorem rorBpX (d : Byte) : Statement (.rorBpX d) := of_opcode 0x76 2 rfl rfl rfl
theorem rmb7 (d : Byte) : Statement (.rmb7 d) := of_opcode 0x77 2 rfl rfl rfl
theorem sei : Statement (.sei) := of_opcode 0x78 1 rfl rfl rfl
theorem adcAbsY (w : Word) : Statement (.adcAbsY w) := of_opcode 0x79 3 rfl rfl rfl
theorem ply : Statement (.ply) := of_opcode 0x7A 1 rfl rfl rfl
theorem tba : Statement (.tba) := of_opcode 0x7B 1 rfl rfl rfl
theorem jmpAbsXInd (w : Word) : Statement (.jmpAbsXInd w) := of_opcode 0x7C 3 rfl rfl rfl
theorem adcAbsX (w : Word) : Statement (.adcAbsX w) := of_opcode 0x7D 3 rfl rfl rfl
theorem rorAbsX (w : Word) : Statement (.rorAbsX w) := of_opcode 0x7E 3 rfl rfl rfl
theorem bbr7 (d : Byte) (r : Byte) : Statement (.bbr7 d r) := of_opcode 0x7F 3 rfl rfl rfl
theorem bruRel (r : Byte) : Statement (.bruRel r) := of_opcode 0x80 2 rfl rfl rfl
theorem staBpXInd (d : Byte) : Statement (.staBpXInd d) := of_opcode 0x81 2 rfl rfl rfl
theorem staSpIndY (d : Byte) : Statement (.staSpIndY d) := of_opcode 0x82 2 rfl rfl rfl
theorem bruWrel (w : Word) : Statement (.bruWrel w) := of_opcode 0x83 3 rfl rfl rfl
theorem styBp (d : Byte) : Statement (.styBp d) := of_opcode 0x84 2 rfl rfl rfl
theorem staBp (d : Byte) : Statement (.staBp d) := of_opcode 0x85 2 rfl rfl rfl
theorem stxBp (d : Byte) : Statement (.stxBp d) := of_opcode 0x86 2 rfl rfl rfl
theorem smb0 (d : Byte) : Statement (.smb0 d) := of_opcode 0x87 2 rfl rfl rfl
theorem dey : Statement (.dey) := of_opcode 0x88 1 rfl rfl rfl
theorem bitImm (m : Byte) : Statement (.bitImm m) := of_opcode 0x89 2 rfl rfl rfl
theorem txa : Statement (.txa) := of_opcode 0x8A 1 rfl rfl rfl
theorem styAbsX (w : Word) : Statement (.styAbsX w) := of_opcode 0x8B 3 rfl rfl rfl
theorem styAbs (w : Word) : Statement (.styAbs w) := of_opcode 0x8C 3 rfl rfl rfl
theorem staAbs (w : Word) : Statement (.staAbs w) := of_opcode 0x8D 3 rfl rfl rfl
theorem stxAbs (w : Word) : Statement (.stxAbs w) := of_opcode 0x8E 3 rfl rfl rfl
theorem bbs0 (d : Byte) (r : Byte) : Statement (.bbs0 d r) := of_opcode 0x8F 3 rfl rfl rfl
theorem bccRel (r : Byte) : Statement (.bccRel r) := of_opcode 0x90 2 rfl rfl rfl
theorem staBpIndY (d : Byte) : Statement (.staBpIndY d) := of_opcode 0x91 2 rfl rfl rfl
theorem staBpIndZ (d : Byte) : Statement (.staBpIndZ d) := of_opcode 0x92 2 rfl rfl rfl
theorem bccWrel (w : Word) : Statement (.bccWrel w) := of_opcode 0x93 3 rfl rfl rfl
theorem styBpX (d : Byte) : Statement (.styBpX d) := of_opcode 0x94 2 rfl rfl rfl
theorem staBpX (d : Byte) : Statement (.staBpX d) := of_opcode 0x95 2 rfl rfl rfl
theorem stxBpY (d : Byte) : Statement (.stxBpY d) := of_opcode 0x96 2 rfl rfl rfl
theorem smb1 (d : Byte) : Statement (.smb1 d) := of_opcode 0x97 2 rfl rfl rfl
theorem tya : Statement (.tya) := of_opcode 0x98 1 rfl rfl rfl
theorem staAbsY (w : Word) : Statement (.staAbsY w) := of_opcode 0x99 3 rfl rfl rfl
theorem txs : Statement (.txs) := of_opcode 0x9A 1 rfl rfl rfl
theorem stxAbsY (w : Word) : Statement (.stxAbsY w) := of_opcode 0x9B 3 rfl rfl rfl
theorem stzAbs (w : Word) : Statement (.stzAbs w) := of_opcode 0x9C 3 rfl rfl rfl
theorem staAbsX (w : Word) : Statement (.staAbsX w) := of_opcode 0x9D 3 rfl rfl rfl
theorem stzAbsX (w : Word) : Statement (.stzAbsX w) := of_opcode 0x9E 3 rfl rfl rfl
theorem bbs1 (d : Byte) (r : Byte) : Statement (.bbs1 d r) := of_opcode 0x9F 3 rfl rfl rfl
theorem ldyImm (m : Byte) : Statement (.ldyImm m) := of_opcode 0xA0 2 rfl rfl rfl
theorem ldaBpXInd (d : Byte) : Statement (.ldaBpXInd d) := of_opcode 0xA1 2 rfl rfl rfl
theorem ldxImm (m : Byte) : Statement (.ldxImm m) := of_opcode 0xA2 2 rfl rfl rfl
theorem ldzImm (m : Byte) : Statement (.ldzImm m) := of_opcode 0xA3 2 rfl rfl rfl
theorem ldyBp (d : Byte) : Statement (.ldyBp d) := of_opcode 0xA4 2 rfl rfl rfl
theorem ldaBp (d : Byte) : Statement (.ldaBp d) := of_opcode 0xA5 2 rfl rfl rfl
theorem ldxBp (d : Byte) : Statement (.ldxBp d) := of_opcode 0xA6 2 rfl rfl rfl
theorem smb2 (d : Byte) : Statement (.smb2 d) := of_opcode 0xA7 2 rfl rfl rfl
theorem tay : Statement (.tay) := of_opcode 0xA8 1 rfl rfl rfl
theorem ldaImm (m : Byte) : Statement (.ldaImm m) := of_opcode 0xA9 2 rfl rfl rfl
theorem tax : Statement (.tax) := of_opcode 0xAA 1 rfl rfl rfl
theorem ldzAbs (w : Word) : Statement (.ldzAbs w) := of_opcode 0xAB 3 rfl rfl rfl
theorem ldyAbs (w : Word) : Statement (.ldyAbs w) := of_opcode 0xAC 3 rfl rfl rfl
theorem ldaAbs (w : Word) : Statement (.ldaAbs w) := of_opcode 0xAD 3 rfl rfl rfl
theorem ldxAbs (w : Word) : Statement (.ldxAbs w) := of_opcode 0xAE 3 rfl rfl rfl
theorem bbs2 (d : Byte) (r : Byte) : Statement (.bbs2 d r) := of_opcode 0xAF 3 rfl rfl rfl
theorem bcsRel (r : Byte) : Statement (.bcsRel r) := of_opcode 0xB0 2 rfl rfl rfl
theorem ldaBpIndY (d : Byte) : Statement (.ldaBpIndY d) := of_opcode 0xB1 2 rfl rfl rfl
theorem ldaBpIndZ (d : Byte) : Statement (.ldaBpIndZ d) := of_opcode 0xB2 2 rfl rfl rfl
theorem bcsWrel (w : Word) : Statement (.bcsWrel w) := of_opcode 0xB3 3 rfl rfl rfl
theorem ldyBpX (d : Byte) : Statement (.ldyBpX d) := of_opcode 0xB4 2 rfl rfl rfl
theorem ldaBpX (d : Byte) : Statement (.ldaBpX d) := of_opcode 0xB5 2 rfl rfl rfl
theorem ldxBpY (d : Byte) : Statement (.ldxBpY d) := of_opcode 0xB6 2 rfl rfl rfl
theorem smb3 (d : Byte) : Statement (.smb3 d) := of_opcode 0xB7 2 rfl rfl rfl
theorem clv : Statement (.clv) := of_opcode 0xB8 1 rfl rfl rfl
theorem ldaAbsY (w : Word) : Statement (.ldaAbsY w) := of_opcode 0xB9 3 rfl rfl rfl
theorem tsx : Statement (.tsx) := of_opcode 0xBA 1 rfl rfl rfl
theorem ldzAbsX (w : Word) : Statement (.ldzAbsX w) := of_opcode 0xBB 3 rfl rfl rfl
theorem ldyAbsX (w : Word) : Statement (.ldyAbsX w) := of_opcode 0xBC 3 rfl rfl rfl
theorem ldaAbsX (w : Word) : Statement (.ldaAbsX w) := of_opcode 0xBD 3 rfl rfl rfl
theorem ldxAbsY (w : Word) : Statement (.ldxAbsY w) := of_opcode 0xBE 3 rfl rfl rfl
theorem bbs3 (d : Byte) (r : Byte) : Statement (.bbs3 d r) := of_opcode 0xBF 3 rfl rfl rfl
theorem cpyImm (m : Byte) : Statement (.cpyImm m) := of_opcode 0xC0 2 rfl rfl rfl
theorem cmpBpXInd (d : Byte) : Statement (.cmpBpXInd d) := of_opcode 0xC1 2 rfl rfl rfl
theorem cpzImm (m : Byte) : Statement (.cpzImm m) := of_opcode 0xC2 2 rfl rfl rfl
theorem dew (d : Byte) : Statement (.dew d) := of_opcode 0xC3 2 rfl rfl rfl
theorem cpyBp (d : Byte) : Statement (.cpyBp d) := of_opcode 0xC4 2 rfl rfl rfl
theorem cmpBp (d : Byte) : Statement (.cmpBp d) := of_opcode 0xC5 2 rfl rfl rfl
theorem decBp (d : Byte) : Statement (.decBp d) := of_opcode 0xC6 2 rfl rfl rfl
theorem smb4 (d : Byte) : Statement (.smb4 d) := of_opcode 0xC7 2 rfl rfl rfl
theorem iny : Statement (.iny) := of_opcode 0xC8 1 rfl rfl rfl
theorem cmpImm (m : Byte) : Statement (.cmpImm m) := of_opcode 0xC9 2 rfl rfl rfl
theorem dex : Statement (.dex) := of_opcode 0xCA 1 rfl rfl rfl
theorem asw (w : Word) : Statement (.asw w) := of_opcode 0xCB 3 rfl rfl rfl
theorem cpyAbs (w : Word) : Statement (.cpyAbs w) := of_opcode 0xCC 3 rfl rfl rfl
theorem cmpAbs (w : Word) : Statement (.cmpAbs w) := of_opcode 0xCD 3 rfl rfl rfl
theorem decAbs (w : Word) : Statement (.decAbs w) := of_opcode 0xCE 3 rfl rfl rfl
theorem bbs4 (d : Byte) (r : Byte) : Statement (.bbs4 d r) := of_opcode 0xCF 3 rfl rfl rfl
theorem bneRel (r : Byte) : Statement (.bneRel r) := of_opcode 0xD0 2 rfl rfl rfl
theorem cmpBpIndY (d : Byte) : Statement (.cmpBpIndY d) := of_opcode 0xD1 2 rfl rfl rfl
theorem cmpBpIndZ (d : Byte) : Statement (.cmpBpIndZ d) := of_opcode 0xD2 2 rfl rfl rfl
theorem bneWrel (w : Word) : Statement (.bneWrel w) := of_opcode 0xD3 3 rfl rfl rfl
theorem cpzBp (d : Byte) : Statement (.cpzBp d) := of_opcode 0xD4 2 rfl rfl rfl
theorem cmpBpX (d : Byte) : Statement (.cmpBpX d) := of_opcode 0xD5 2 rfl rfl rfl
theorem decBpX (d : Byte) : Statement (.decBpX d) := of_opcode 0xD6 2 rfl rfl rfl
theorem smb5 (d : Byte) : Statement (.smb5 d) := of_opcode 0xD7 2 rfl rfl rfl
theorem cld : Statement (.cld) := of_opcode 0xD8 1 rfl rfl rfl
theorem cmpAbsY (w : Word) : Statement (.cmpAbsY w) := of_opcode 0xD9 3 rfl rfl rfl
theorem phx : Statement (.phx) := of_opcode 0xDA 1 rfl rfl rfl
theorem phz : Statement (.phz) := of_opcode 0xDB 1 rfl rfl rfl
theorem cpzAbs (w : Word) : Statement (.cpzAbs w) := of_opcode 0xDC 3 rfl rfl rfl
theorem cmpAbsX (w : Word) : Statement (.cmpAbsX w) := of_opcode 0xDD 3 rfl rfl rfl
theorem decAbsX (w : Word) : Statement (.decAbsX w) := of_opcode 0xDE 3 rfl rfl rfl
theorem bbs5 (d : Byte) (r : Byte) : Statement (.bbs5 d r) := of_opcode 0xDF 3 rfl rfl rfl
theorem cpxImm (m : Byte) : Statement (.cpxImm m) := of_opcode 0xE0 2 rfl rfl rfl
theorem sbcBpXInd (d : Byte) : Statement (.sbcBpXInd d) := of_opcode 0xE1 2 rfl rfl rfl
theorem ldaSpIndY (d : Byte) : Statement (.ldaSpIndY d) := of_opcode 0xE2 2 rfl rfl rfl
theorem inw (d : Byte) : Statement (.inw d) := of_opcode 0xE3 2 rfl rfl rfl
theorem cpxBp (d : Byte) : Statement (.cpxBp d) := of_opcode 0xE4 2 rfl rfl rfl
theorem sbcBp (d : Byte) : Statement (.sbcBp d) := of_opcode 0xE5 2 rfl rfl rfl
theorem incBp (d : Byte) : Statement (.incBp d) := of_opcode 0xE6 2 rfl rfl rfl
theorem smb6 (d : Byte) : Statement (.smb6 d) := of_opcode 0xE7 2 rfl rfl rfl
theorem inx : Statement (.inx) := of_opcode 0xE8 1 rfl rfl rfl
theorem sbcImm (m : Byte) : Statement (.sbcImm m) := of_opcode 0xE9 2 rfl rfl rfl
theorem nop : Statement (.nop) := of_opcode 0xEA 1 rfl rfl rfl
theorem row (w : Word) : Statement (.row w) := of_opcode 0xEB 3 rfl rfl rfl
theorem cpxAbs (w : Word) : Statement (.cpxAbs w) := of_opcode 0xEC 3 rfl rfl rfl
theorem sbcAbs (w : Word) : Statement (.sbcAbs w) := of_opcode 0xED 3 rfl rfl rfl
theorem incAbs (w : Word) : Statement (.incAbs w) := of_opcode 0xEE 3 rfl rfl rfl
theorem bbs6 (d : Byte) (r : Byte) : Statement (.bbs6 d r) := of_opcode 0xEF 3 rfl rfl rfl
theorem beqRel (r : Byte) : Statement (.beqRel r) := of_opcode 0xF0 2 rfl rfl rfl
theorem sbcBpIndY (d : Byte) : Statement (.sbcBpIndY d) := of_opcode 0xF1 2 rfl rfl rfl
theorem sbcBpIndZ (d : Byte) : Statement (.sbcBpIndZ d) := of_opcode 0xF2 2 rfl rfl rfl
theorem beqWrel (w : Word) : Statement (.beqWrel w) := of_opcode 0xF3 3 rfl rfl rfl
theorem phwImmW (w : Word) : Statement (.phwImmW w) := of_opcode 0xF4 3 rfl rfl rfl
theorem sbcBpX (d : Byte) : Statement (.sbcBpX d) := of_opcode 0xF5 2 rfl rfl rfl
theorem incBpX (d : Byte) : Statement (.incBpX d) := of_opcode 0xF6 2 rfl rfl rfl
theorem smb7 (d : Byte) : Statement (.smb7 d) := of_opcode 0xF7 2 rfl rfl rfl
theorem sed : Statement (.sed) := of_opcode 0xF8 1 rfl rfl rfl
theorem sbcAbsY (w : Word) : Statement (.sbcAbsY w) := of_opcode 0xF9 3 rfl rfl rfl
theorem plx : Statement (.plx) := of_opcode 0xFA 1 rfl rfl rfl
theorem plz : Statement (.plz) := of_opcode 0xFB 1 rfl rfl rfl
theorem phwAbs (w : Word) : Statement (.phwAbs w) := of_opcode 0xFC 3 rfl rfl rfl
theorem sbcAbsX (w : Word) : Statement (.sbcAbsX w) := of_opcode 0xFD 3 rfl rfl rfl
theorem incAbsX (w : Word) : Statement (.incAbsX w) := of_opcode 0xFE 3 rfl rfl rfl
theorem bbs7 (d : Byte) (r : Byte) : Statement (.bbs7 d r) := of_opcode 0xFF 3 rfl rfl rfl

end Sys2Proof.Laws.EncodedLength
end

