-- ==== Sys2Proof/Laws/Stack.lean ====
section
/-! SUPPORT. The stack pointer's steps, a push and a pull, trap entry and return: what each does, once. -/

namespace Sys2Proof.Machine

@[simp] theorem spUp_spDown (e : Bool) (sp : Word) (n : Byte) : spUp e (spDown e sp n) n = sp := by
  cases e <;> simp [spUp, spDown]

@[simp] theorem spDown_spUp (e : Bool) (sp : Word) (n : Byte) : spDown e (spUp e sp n) n = sp := by
  cases e <;> simp [spUp, spDown]

/-- In byte mode a step never leaves the stack page, R27. -/
theorem spUp_page (sp : Word) (n : Byte) : hiByte (spUp true sp n) = hiByte sp := by simp [spUp]

theorem spDown_page (sp : Word) (n : Byte) : hiByte (spDown true sp n) = hiByte sp := by
  simp [spDown]

/-- A push, R29: the byte goes to the address SP held (where RAM answers), SP steps down, nothing else
changes but that byte. -/
theorem State.push_spec (s : State) (slot : BusSlot) (v : Byte) (h : s.mem.wf = true) :
    (s.push slot v).sp = spDown s.p.e s.sp 1 ∧ (s.push slot v).mem.wf = true ∧
      (∀ slot' a, a ≠ s.sp → (s.push slot v).read slot' a = s.read slot' a) ∧
      (s.answer s.sp = .ram → (s.push slot v).read slot s.sp = v) :=
  ⟨rfl, State.wf_memAfter s.sp v h,
    fun slot' a ha =>
      (State.read_write_other (s := s) ha v slot slot' : (s.write slot s.sp v).read slot' a = _),
    fun hr => (State.read_write_same hr h v fun _ _ hw => hw :
      (s.write slot s.sp v).read slot s.sp = v)⟩

theorem State.read_push_other {s : State} {a : Word} (h : a ≠ s.sp) (v : Byte)
    (slot slot' : BusSlot) : (s.push slot v).read slot' a = s.read slot' a :=
  (State.read_write_other (s := s) h v slot slot' : (s.write slot s.sp v).read slot' a = _)

theorem State.wf_push {s : State} (slot : BusSlot) (v : Byte) (h : s.mem.wf = true) :
    (s.push slot v).mem.wf = true := State.wf_memAfter s.sp v h

/-- A pull right after a push gives the byte back, R29, where no other master writes. -/
theorem State.pulled_push {s : State} (hram : s.answer s.sp = .ram) (h : s.mem.wf = true)
    (hd : s.dma = []) (v : Byte) (slot slot' : BusSlot) : (s.push slot v).pulled slot' = v := by
  have hs : (s.push slot v).incSp.sp = s.sp := by simp
  rw [State.pulled, hs]
  exact (State.read_write_same hram h v (by simp [hd]) : (s.write slot s.sp v).read slot' s.sp = v)

section
variable (s : State) (vector ret : Word) (b : Bool)

/-- Taking a trap, R352: what it writes and what it leaves. -/
theorem State.trapEntry_spec :
    (s.trapEntry vector ret b).p = trapFlags s.cfg.trapClearsD s.tick s.p ∧
      (s.trapEntry vector ret b).sp = spDown s.p.e (spDown s.p.e (spDown s.p.e s.sp 1) 1) 1 ∧
      (s.trapEntry vector ret b).pc = (s.pushTrapFrame ret b).vectorAt vector ∧
      (s.trapEntry vector ret b).mem = (s.pushTrapFrame ret b).mem ∧
      (s.trapEntry vector ret b).a = s.a ∧ (s.trapEntry vector ret b).x = s.x ∧
      (s.trapEntry vector ret b).y = s.y ∧ (s.trapEntry vector ret b).z = s.z ∧
      (s.trapEntry vector ret b).b = s.b ∧ (s.trapEntry vector ret b).cfg = s.cfg ∧
      (s.trapEntry vector ret b).tick = s.tick := by
  simp [State.trapEntry, State.pushTrapFrame]

theorem State.wf_pushTrapFrame (h : s.mem.wf = true) : (s.pushTrapFrame ret b).mem.wf = true :=
  State.wf_push _ _ (State.wf_push _ _ (State.wf_push _ _ h))

/-- Returning from a trap, R323: what it writes and what it leaves. -/
theorem State.trapReturn_spec :
    s.trapReturn.p = s.p.load s.cfg.pullPWritesE (s.pulled .pull1) ∧
      s.trapReturn.sp = s.pullP.incSp.incSp.sp ∧
      s.trapReturn.pc = wordOf (s.pullP.incSp.pulled .pull3) (s.pullP.pulled .pull2) ∧
      s.trapReturn.mem = s.mem ∧ s.trapReturn.a = s.a ∧ s.trapReturn.x = s.x ∧
      s.trapReturn.y = s.y ∧ s.trapReturn.z = s.z ∧ s.trapReturn.b = s.b ∧
      s.trapReturn.cfg = s.cfg ∧ s.trapReturn.tick = s.tick := by
  simp [State.trapReturn, State.pullP]

end

end Sys2Proof.Machine
end

