-- ==== Sys2Proof/Laws/Shared.lean ====
section
/-! SUPPORT. The shared operations behind the meanings, each as one equation that says all it does. -/

namespace Sys2Proof.Machine

section
variable (s t : State) (v m : Byte) (w ea lo hi : Word)

theorem retire_eq (len : Word) : retire s len t = .next { t with pc := s.pc + len } := rfl

theorem State.putA_eq : s.putA v = { s with a := v, p := s.p.nz v } := rfl
theorem State.putX_eq : s.putX v = { s with x := v, p := s.p.nz v } := rfl
theorem State.putY_eq : s.putY v = { s with y := v, p := s.p.nz v } := rfl
theorem State.putZ_eq : s.putZ v = { s with z := v, p := s.p.nz v } := rfl

theorem State.write_eq (slot : BusSlot) :
    s.write slot ea v =
      { s with
        mem := s.memAfter ea v
        dma := s.dmaAfter slot ea
        bus := s.bus ++ [writeCycle slot ea v] } := rfl

theorem State.push_eq (slot : BusSlot) :
    s.push slot v =
      { s.write slot s.sp v with sp := spDown s.p.e s.sp 1 } := rfl

theorem State.putMem_eq :
    s.putMem ea v = { s.write .writeLo ea v with p := s.p.nz v } := rfl

theorem State.putWord_eq :
    s.putWord lo hi w = { s.writeWord lo hi w with p := s.p.nz16 w } := rfl

theorem State.adc_eq :
    s.adc m =
      { s with a := (adcSum s.tick s.p s.a m).result, p := (adcSum s.tick s.p s.a m).flags } := rfl

theorem State.sbc_eq :
    s.sbc m =
      { s with a := (sbcSum s.tick s.p s.a m).result, p := (sbcSum s.tick s.p s.a m).flags } := rfl

theorem State.bitTest_eq :
    s.bitTest m =
      { s with p := { s.p with
          zf := (s.a &&& m) == 0, n := m.getLsbD 7, v := m.getLsbD 6 } } := rfl

theorem State.shiftA_eq (op : Bool → Byte → Byte × Bool) :
    s.shiftA op = { s with a := (op s.p.c s.a).1, p := s.p.shifted (op s.p.c s.a) } := rfl

theorem State.shiftMem_eq (op : Bool → Byte → Byte × Bool) :
    s.shiftMem op ea =
      { s.write .writeLo ea (op s.p.c (s.dataAt ea)).1 with
        p := s.p.shifted (op s.p.c (s.dataAt ea)) } := rfl

theorem State.testSet_eq :
    s.testSet ea =
      { s.write .writeLo ea (s.a ||| s.dataAt ea) with p := s.testFlags ea } := rfl

theorem State.testReset_eq :
    s.testReset ea =
      { s.write .writeLo ea ((s.a ^^^ 0xFF) &&& s.dataAt ea) with p := s.testFlags ea } := rfl

theorem branch_eq (len : Word) (cond : Bool) :
    branch s len cond w = .next { s with pc := if cond then w else s.pc + len } := rfl

theorem State.callPush_eq :
    s.callPush w = (s.push .push1 (hiByte w)).push .push2 (loByte w) := rfl

theorem call_eq (target : State → Word) :
    call s target =
      .next { s.callPush (s.pc + 2) with pc := target (s.callPush (s.pc + 2)) } := rfl

theorem State.afterReturnPull_eq :
    s.afterReturnPull = { s with sp := spUp s.p.e (spUp s.p.e s.sp 1) 1 } := rfl

theorem State.pullP_eq :
    s.pullP =
      { s with
        sp := spUp s.p.e s.sp 1
        p := s.p.load s.cfg.pullPWritesE (s.pulled .pull1) } := rfl

end

/-- PHW pushes two bytes in either order: only memory and SP change. -/
theorem State.pushWord_frame (s : State) (w : Word) :
    (s.pushWord w).sp = spDown s.p.e (spDown s.p.e s.sp 1) 1 ∧ (s.pushWord w).p = s.p ∧
      (s.pushWord w).a = s.a ∧ (s.pushWord w).x = s.x ∧ (s.pushWord w).y = s.y ∧
      (s.pushWord w).z = s.z ∧ (s.pushWord w).b = s.b ∧ (s.pushWord w).cfg = s.cfg ∧
      (s.pushWord w).tick = s.tick := by
  unfold State.pushWord
  split <;> simp

/-- What the writes and pushes of an instruction change: memory, what is left of other masters' writes,
the record of the bus, and SP. -/
def OnlyStack (s t : State) : Prop :=
  t = { s with mem := t.mem, dma := t.dma, bus := t.bus, sp := t.sp }

theorem OnlyStack.trans {s t u : State} (h : OnlyStack s t) (h' : OnlyStack t u) :
    OnlyStack s u := by
  unfold OnlyStack at h h' ⊢
  rw [h] at h'
  exact h'

theorem onlyStack_write (s : State) (slot : BusSlot) (a : Word) (v : Byte) :
    OnlyStack s (s.write slot a v) := rfl

theorem onlyStack_push (s : State) (slot : BusSlot) (v : Byte) : OnlyStack s (s.push slot v) := rfl

theorem onlyStack_writeWord (s : State) (lo hi w : Word) : OnlyStack s (s.writeWord lo hi w) :=
  (onlyStack_write s .writeLo lo (loByte w)).trans (onlyStack_write _ .writeHi hi (hiByte w))

theorem onlyStack_push_push (s : State) (i j : BusSlot) (v w : Byte) :
    OnlyStack s ((s.push i v).push j w) :=
  (onlyStack_push s i v).trans (onlyStack_push (s.push i v) j w)

theorem onlyStack_callPush (s : State) (ret : Word) : OnlyStack s (s.callPush ret) :=
  onlyStack_push_push s .push1 .push2 (hiByte ret) (loByte ret)

theorem onlyStack_pushWord (s : State) (w : Word) : OnlyStack s (s.pushWord w) := by
  unfold State.pushWord
  split <;> exact onlyStack_push_push s .push1 .push2 _ _

theorem onlyStack_pushTrapFrame (s : State) (ret : Word) (b : Bool) :
    OnlyStack s (s.pushTrapFrame ret b) :=
  (onlyStack_push_push s .push1 .push2 (hiByte ret) (loByte ret)).trans
    (onlyStack_push _ .push3 (s.p.image b))

/-- The pushes of trap entry move SP three down, R352. -/
theorem State.pushTrapFrame_sp (s : State) (ret : Word) (b : Bool) :
    (s.pushTrapFrame ret b).sp = spDown s.p.e (spDown s.p.e (spDown s.p.e s.sp 1) 1) 1 := by
  simp [State.pushTrapFrame]

/-- Trap entry, whole: memory, SP, the bus, the flags and pc are all it changes, R352. -/
theorem State.trapEntry_eq (s : State) (vector ret : Word) (b : Bool) :
    s.trapEntry vector ret b =
      { s with
        mem := (s.pushTrapFrame ret b).mem
        dma := (s.pushTrapFrame ret b).dma
        bus := (s.pushTrapFrame ret b).bus
        sp := (s.pushTrapFrame ret b).sp
        p := trapFlags s.cfg.trapClearsD s.tick s.p
        pc := (s.pushTrapFrame ret b).vectorAt vector } := by
  have h := onlyStack_pushTrapFrame s ret b
  unfold State.trapEntry
  generalize (s.pushTrapFrame ret b).vectorAt vector = q
  generalize s.pushTrapFrame ret b = t at h ⊢
  unfold OnlyStack at h
  rw [h]
  rfl

/-- The word at a vector depends on memory, other masters, the platform and the counter only. -/
theorem State.vectorAt_congr {s t : State} (hm : s.mem = t.mem) (hd : s.dma = t.dma)
    (hc : s.cfg = t.cfg) (ht : s.tick = t.tick) (a : Word) : s.vectorAt a = t.vectorAt a := by
  unfold State.vectorAt
  rw [State.read_congr hm hd hc ht, State.read_congr hm hd hc ht]

/-- RTS, whole: SP and pc are all it changes, R165. -/
theorem execRts_eq (s : State) :
    execRts s = .next { s with
      sp := spUp s.p.e (spUp s.p.e s.sp 1) 1
      pc := wordOf (s.read .pull2 (spUp s.p.e (spUp s.p.e s.sp 1) 1))
        (s.read .pull1 (spUp s.p.e s.sp 1)) + 1 } := rfl

/-- The reset sequence writes no memory and keeps the parameters (R382). -/
theorem State.resetSequence_frame (s : State) :
    s.resetSequence.mem = s.mem ∧ s.resetSequence.cfg = s.cfg ∧ s.resetSequence.pins = s.pins ∧
      s.resetSequence.inputs = s.inputs ∧ s.resetSequence.tick = s.tick :=
  ⟨rfl, rfl, rfl, rfl, rfl⟩

/-- An abandoned instruction leaves the memory in its canonical form. -/
theorem wf_abandonedMem (tick : Nat) {before after : Memory} (hb : before.wf = true)
    (ha : after.wf = true) : (abandonedMem tick before after).wf = true := by
  have key : ∀ {lo : Nat} (m : Memory), Memory.wfAbove lo m = true → ∀ c ∈ m, c.1 < 65536 := by
    intro lo m
    induction m generalizing lo with
    | nil => intro _ c hc; cases hc
    | cons x m ih =>
      intro h c hc
      simp only [Memory.wfAbove, Bool.and_eq_true, decide_eq_true_eq] at h
      cases hc with
      | head => exact h.1.1.2
      | tail _ hc => exact ih h.2 c hc
  have fold : ∀ (l : List Host.Cell), (∀ c ∈ l, c.1 < 65536) → ∀ m : Memory, m.wf = true →
      (l.foldl (fun m c => if Config.keepsOldByte tick c.1
        then Memory.write m c.1 (Memory.read before c.1) else m) m).wf = true := by
    intro l
    induction l with
    | nil => intro _ m hm; exact hm
    | cons c l ih =>
      intro hl m hm
      refine ih (fun c' hc' => hl c' (List.mem_cons_of_mem _ hc')) _ ?_
      dsimp only
      split
      · exact Memory.wf_write (hl c List.mem_cons_self) _ hm
      · exact hm
  refine fold (before ++ after) ?_ after ha
  intro c hc
  rcases List.mem_append.mp hc with h | h
  · exact key before hb c h
  · exact key after ha c h

end Sys2Proof.Machine
end

