-- ==== Sys2Proof/Laws/Step.lean ====
section
/-! SUPPORT. What a boundary and a step can do, once. -/

namespace Sys2Proof.Machine

/-- A boundary with nothing from the environment moves the schedule and the counter only. -/
theorem State.boundary_of_no_input {s : State} (h : (s.inputs.headD []).isEmpty = true) :
    s.boundary = s.beginStep.setTick (s.tick + 1) := by
  have hn : s.inputs.headD [] = [] := List.isEmpty_iff.mp h
  rw [State.boundary, hn]
  rfl

/-- One input keeps every register but V and memory outside DMA; it never touches the parameters. -/
theorem State.applyInput_frame (s : State) (input : Input) :
    (s.applyInput input).a = s.a ∧ (s.applyInput input).x = s.x ∧ (s.applyInput input).y = s.y ∧
      (s.applyInput input).z = s.z ∧ (s.applyInput input).b = s.b ∧
      (s.applyInput input).sp = s.sp ∧ (s.applyInput input).pc = s.pc ∧
      (s.applyInput input).cfg = s.cfg ∧ (s.applyInput input).lastSingle = s.lastSingle ∧
      (s.applyInput input).inputs = s.inputs := by
  cases input <;> simp only [State.applyInput, State.sampleSo, State.stall, State.poke] <;>
    (try split) <;> simp

/-- What every input keeps, a batch of inputs keeps. -/
theorem foldl_applyInput_keeps {α : Type} (f : State → α) (h : ∀ u i, f (State.applyInput u i) = f u)
    (batch : List Input) (s : State) : f (batch.foldl State.applyInput s) = f s := by
  induction batch generalizing s with
  | nil => rfl
  | cons input batch ih => rw [List.foldl_cons, ih, h]

/-- A boundary with any batch of inputs keeps every register but V, and the parameters, and takes the
batch off the schedule. -/
theorem State.boundary_frame (s : State) :
    s.boundary.a = s.a ∧ s.boundary.x = s.x ∧ s.boundary.y = s.y ∧ s.boundary.z = s.z ∧
      s.boundary.b = s.b ∧ s.boundary.sp = s.sp ∧ s.boundary.pc = s.pc ∧
      s.boundary.cfg = s.cfg ∧ s.boundary.lastSingle = s.lastSingle ∧
      s.boundary.inputs = s.inputs.tail := by
  have keeps {α : Type} (f : State → α) (h : ∀ u i, f (State.applyInput u i) = f u) :=
    foldl_applyInput_keeps f h (s.inputs.headD []) s.beginStep
  simp only [State.boundary, State.setTick_a, State.setTick_x, State.setTick_y, State.setTick_z,
    State.setTick_b, State.setTick_sp, State.setTick_pc, State.setTick_cfg,
    State.setTick_lastSingle, State.setTick_inputs]
  rw [keeps State.a, keeps State.x, keeps State.y, keeps State.z, keeps State.b, keeps State.sp,
    keeps State.pc, keeps State.cfg, keeps State.lastSingle, keeps State.inputs]
  · simp [State.beginStep]
  all_goals exact fun u i => by simp only [State.applyInput_frame]

/-- What one pass of the boundary logic can be. -/
theorem State.cycle_cases {s t : State} (h : s.cycle = .next t) :
    (s.halted = true ∧ t = s.setBus s.heldBus) ∨
    (s.halted = false ∧ s.resetDue = true ∧ t = s.resetSequence) ∨
    (s.halted = false ∧ s.resetDue = false ∧ s.pendingInterrupt = some .nmi ∧ t = s.takeNmi) ∨
    (s.halted = false ∧ s.resetDue = false ∧ s.pendingInterrupt = some .irq ∧ t = s.takeIrq) ∨
    (s.halted = false ∧ s.resetDue = false ∧ s.pendingInterrupt = none ∧
      ∃ u, exec s.fetchInstr s = .next u ∧
        t = (u.setLastSingle s.fetchInstr.singleCycle).recordBus (readCycles s.fetchInstr s)) := by
  unfold State.cycle at h
  split at h
  · rename_i h1
    exact .inl ⟨h1, by cases h; rfl⟩
  · rename_i h1
    rw [Bool.not_eq_true] at h1
    split at h
    · rename_i h2
      exact .inr (.inl ⟨h1, h2, by cases h; rfl⟩)
    · rename_i h2
      rw [Bool.not_eq_true] at h2
      split at h
      · rename_i h3
        exact .inr (.inr (.inl ⟨h1, h2, h3, by cases h; rfl⟩))
      · rename_i h3
        exact .inr (.inr (.inr (.inl ⟨h1, h2, h3, by cases h; rfl⟩)))
      · rename_i h3
        refine .inr (.inr (.inr (.inr ⟨h1, h2, h3, ?_⟩)))
        unfold State.runInstr at h
        cases he : exec s.fetchInstr s with
        | next u => rw [he] at h; cases h; exact ⟨u, rfl, rfl⟩
        | fault f => cases f
        | refused r => rw [he] at h; cases h

theorem land_eq_next {r : Result} {t : State} (h : land r = .next t) :
    ∃ u, r = .next u ∧ t = u.landDma := by
  cases r with
  | next u => cases h; exact ⟨u, rfl, rfl⟩
  | fault f => cases f
  | refused r => cases h

/-- What one step can be: a pass of the boundary logic with what other masters wrote meanwhile, or an
abandoned one (R383). -/
theorem step_cases {s t : State} (h : step s = .next t) :
    (s.boundary.resCut = false ∧ ∃ u, s.boundary.cycle = .next u ∧ t = u.landDma) ∨
    (s.boundary.resCut = true ∧
      ∃ u, (s.boundary.setResCut false).cycle = .next u ∧
        t = s.boundary.landDma.abandon u.landDma) := by
  unfold step State.cycleOrAbandon at h
  split at h
  · rename_i hc
    refine .inr ⟨hc, ?_⟩
    cases he : (s.boundary.setResCut false).cycle with
    | next u => rw [he] at h; cases h; exact ⟨u, rfl, rfl⟩
    | fault f => cases f
    | refused r => rw [he] at h; cases h
  · rename_i hc
    exact .inl ⟨by simpa using hc, land_eq_next h⟩

end Sys2Proof.Machine
end

