-- ==== Sys2Proof/Tests/Slice0.lean ====
section
/-! SUPPORT. The model's own tests: what WellFormed refuses, every opcode's decoding from a word written
out from the cells of R95, single steps with the values of the spec's examples, and for every statement
with hypotheses a state that meets them. -/

namespace Sys2Proof.Tests

open Sys2Proof.Machine

/-! ## Well-formedness -/

/-- D29: a region of no address is refused. -/
theorem test_wf_empty_region_refused : Region.wf ⟨0x1000, 0, .ram⟩ = false := by decide

/-- R38: a region past the last address is refused. -/
theorem test_wf_region_past_end_refused : Region.wf ⟨0xFFFF, 2, .rom⟩ = false := by decide

/-- One ill-formed region makes a map ill-formed. -/
theorem test_wf_map_with_bad_region_refused :
    MemMap.wf [⟨0, 0x8000, .ram⟩, ⟨0x8000, 0x8001, .rom⟩] = false := by decide

/-- A map that fills the space is well-formed. -/
theorem test_wf_full_map : MemMap.wf [⟨0, 0x8000, .ram⟩, ⟨0x8000, 0x8000, .rom⟩] = true := by decide

/-! ## Decoding: every cell of the matrix R95 -/

theorem test_decode_row_0 :
    decodeTableWord 16 0x9100 = some (.brk 0x91) ∧
    decodeTableWord 16 0x9801 = some (.oraBpXInd 0x98) ∧
    decodeTableWord 8 0x02 = some .cle ∧
    decodeTableWord 8 0x03 = some .see ∧
    decodeTableWord 16 0xAD04 = some (.tsbBp 0xAD) ∧
    decodeTableWord 16 0xB405 = some (.oraBp 0xB4) ∧
    decodeTableWord 16 0xBB06 = some (.aslBp 0xBB) ∧
    decodeTableWord 16 0xC207 = some (.rmb0 0xC2) ∧
    decodeTableWord 8 0x08 = some .php ∧
    decodeTableWord 16 0xD009 = some (.oraImm 0xD0) ∧
    decodeTableWord 8 0x0A = some .aslA ∧
    decodeTableWord 8 0x0B = some .tsy ∧
    decodeTableWord 24 0x78E50C = some (.tsbAbs 0x78E5) ∧
    decodeTableWord 24 0x7DEC0D = some (.oraAbs 0x7DEC) ∧
    decodeTableWord 24 0x82F30E = some (.aslAbs 0x82F3) ∧
    decodeTableWord 24 0x87FA0F = some (.bbr0 0xFA 0x87) := by
  decide

theorem test_decode_row_1 :
    decodeTableWord 16 0x0110 = some (.bplRel 0x01) ∧
    decodeTableWord 16 0x0811 = some (.oraBpIndY 0x08) ∧
    decodeTableWord 16 0x0F12 = some (.oraBpIndZ 0x0F) ∧
    decodeTableWord 24 0x9B1613 = some (.bplWrel 0x9B16) ∧
    decodeTableWord 16 0x1D14 = some (.trbBp 0x1D) ∧
    decodeTableWord 16 0x2415 = some (.oraBpX 0x24) ∧
    decodeTableWord 16 0x2B16 = some (.aslBpX 0x2B) ∧
    decodeTableWord 16 0x3217 = some (.rmb1 0x32) ∧
    decodeTableWord 8 0x18 = some .clc ∧
    decodeTableWord 24 0xB94019 = some (.oraAbsY 0xB940) ∧
    decodeTableWord 8 0x1A = some .incA ∧
    decodeTableWord 8 0x1B = some .inz ∧
    decodeTableWord 24 0xC8551C = some (.trbAbs 0xC855) ∧
    decodeTableWord 24 0xCD5C1D = some (.oraAbsX 0xCD5C) ∧
    decodeTableWord 24 0xD2631E = some (.aslAbsX 0xD263) ∧
    decodeTableWord 24 0xD76A1F = some (.bbr1 0x6A 0xD7) := by
  decide

theorem test_decode_row_2 :
    decodeTableWord 24 0xDC7120 = some (.jsrAbs 0xDC71) ∧
    decodeTableWord 16 0x7821 = some (.andBpXInd 0x78) ∧
    decodeTableWord 24 0xE67F22 = some (.jsrAbsInd 0xE67F) ∧
    decodeTableWord 24 0xEB8623 = some (.jsrAbsXInd 0xEB86) ∧
    decodeTableWord 16 0x8D24 = some (.bitBp 0x8D) ∧
    decodeTableWord 16 0x9425 = some (.andBp 0x94) ∧
    decodeTableWord 16 0x9B26 = some (.rolBp 0x9B) ∧
    decodeTableWord 16 0xA227 = some (.rmb2 0xA2) ∧
    decodeTableWord 8 0x28 = some .plp ∧
    decodeTableWord 16 0xB029 = some (.andImm 0xB0) ∧
    decodeTableWord 8 0x2A = some .rolA ∧
    decodeTableWord 8 0x2B = some .tys ∧
    decodeTableWord 24 0x18C52C = some (.bitAbs 0x18C5) ∧
    decodeTableWord 24 0x1DCC2D = some (.andAbs 0x1DCC) ∧
    decodeTableWord 24 0x22D32E = some (.rolAbs 0x22D3) ∧
    decodeTableWord 24 0x27DA2F = some (.bbr2 0xDA 0x27) := by
  decide

theorem test_decode_row_3 :
    decodeTableWord 16 0xE130 = some (.bmiRel 0xE1) ∧
    decodeTableWord 16 0xE831 = some (.andBpIndY 0xE8) ∧
    decodeTableWord 16 0xEF32 = some (.andBpIndZ 0xEF) ∧
    decodeTableWord 24 0x3BF633 = some (.bmiWrel 0x3BF6) ∧
    decodeTableWord 16 0xFD34 = some (.bitBpX 0xFD) ∧
    decodeTableWord 16 0x0435 = some (.andBpX 0x04) ∧
    decodeTableWord 16 0x0B36 = some (.rolBpX 0x0B) ∧
    decodeTableWord 16 0x1237 = some (.rmb3 0x12) ∧
    decodeTableWord 8 0x38 = some .sec ∧
    decodeTableWord 24 0x592039 = some (.andAbsY 0x5920) ∧
    decodeTableWord 8 0x3A = some .decA ∧
    decodeTableWord 8 0x3B = some .dez ∧
    decodeTableWord 24 0x68353C = some (.bitAbsX 0x6835) ∧
    decodeTableWord 24 0x6D3C3D = some (.andAbsX 0x6D3C) ∧
    decodeTableWord 24 0x72433E = some (.rolAbsX 0x7243) ∧
    decodeTableWord 24 0x774A3F = some (.bbr3 0x4A 0x77) := by
  decide

theorem test_decode_row_4 :
    decodeTableWord 8 0x40 = some .rti ∧
    decodeTableWord 16 0x5841 = some (.eorBpXInd 0x58) ∧
    decodeTableWord 8 0x42 = some .neg ∧
    decodeTableWord 8 0x43 = some .asrA ∧
    decodeTableWord 16 0x6D44 = some (.asrBp 0x6D) ∧
    decodeTableWord 16 0x7445 = some (.eorBp 0x74) ∧
    decodeTableWord 16 0x7B46 = some (.lsrBp 0x7B) ∧
    decodeTableWord 16 0x8247 = some (.rmb4 0x82) ∧
    decodeTableWord 8 0x48 = some .pha ∧
    decodeTableWord 16 0x9049 = some (.eorImm 0x90) ∧
    decodeTableWord 8 0x4A = some .lsrA ∧
    decodeTableWord 8 0x4B = some .taz ∧
    decodeTableWord 24 0xB8A54C = some (.jmpAbs 0xB8A5) ∧
    decodeTableWord 24 0xBDAC4D = some (.eorAbs 0xBDAC) ∧
    decodeTableWord 24 0xC2B34E = some (.lsrAbs 0xC2B3) ∧
    decodeTableWord 24 0xC7BA4F = some (.bbr4 0xBA 0xC7) := by
  decide

theorem test_decode_row_5 :
    decodeTableWord 16 0xC150 = some (.bvcRel 0xC1) ∧
    decodeTableWord 16 0xC851 = some (.eorBpIndY 0xC8) ∧
    decodeTableWord 16 0xCF52 = some (.eorBpIndZ 0xCF) ∧
    decodeTableWord 24 0xDBD653 = some (.bvcWrel 0xDBD6) ∧
    decodeTableWord 16 0xDD54 = some (.asrBpX 0xDD) ∧
    decodeTableWord 16 0xE455 = some (.eorBpX 0xE4) ∧
    decodeTableWord 16 0xEB56 = some (.lsrBpX 0xEB) ∧
    decodeTableWord 16 0xF257 = some (.rmb5 0xF2) ∧
    decodeTableWord 8 0x58 = some .cli ∧
    decodeTableWord 24 0xF90059 = some (.eorAbsY 0xF900) ∧
    decodeTableWord 8 0x5A = some .phy ∧
    decodeTableWord 8 0x5B = some .tab ∧
    decodeTableWord 32 0xE708155C = some (.aug 0x15 0x08 0xE7) ∧
    decodeTableWord 24 0x0D1C5D = some (.eorAbsX 0x0D1C) ∧
    decodeTableWord 24 0x12235E = some (.lsrAbsX 0x1223) ∧
    decodeTableWord 24 0x172A5F = some (.bbr5 0x2A 0x17) := by
  decide

theorem test_decode_row_6 :
    decodeTableWord 8 0x60 = some .rts ∧
    decodeTableWord 16 0x3861 = some (.adcBpXInd 0x38) ∧
    decodeTableWord 16 0x3F62 = some (.rtn 0x3F) ∧
    decodeTableWord 24 0x2B4663 = some (.bsr 0x2B46) ∧
    decodeTableWord 16 0x4D64 = some (.stzBp 0x4D) ∧
    decodeTableWord 16 0x5465 = some (.adcBp 0x54) ∧
    decodeTableWord 16 0x5B66 = some (.rorBp 0x5B) ∧
    decodeTableWord 16 0x6267 = some (.rmb6 0x62) ∧
    decodeTableWord 8 0x68 = some .pla ∧
    decodeTableWord 16 0x7069 = some (.adcImm 0x70) ∧
    decodeTableWord 8 0x6A = some .rorA ∧
    decodeTableWord 8 0x6B = some .tza ∧
    decodeTableWord 24 0x58856C = some (.jmpAbsInd 0x5885) ∧
    decodeTableWord 24 0x5D8C6D = some (.adcAbs 0x5D8C) ∧
    decodeTableWord 24 0x62936E = some (.rorAbs 0x6293) ∧
    decodeTableWord 24 0x679A6F = some (.bbr6 0x9A 0x67) := by
  decide

theorem test_decode_row_7 :
    decodeTableWord 16 0xA170 = some (.bvsRel 0xA1) ∧
    decodeTableWord 16 0xA871 = some (.adcBpIndY 0xA8) ∧
    decodeTableWord 16 0xAF72 = some (.adcBpIndZ 0xAF) ∧
    decodeTableWord 24 0x7BB673 = some (.bvsWrel 0x7BB6) ∧
    decodeTableWord 16 0xBD74 = some (.stzBpX 0xBD) ∧
    decodeTableWord 16 0xC475 = some (.adcBpX 0xC4) ∧
    decodeTableWord 16 0xCB76 = some (.rorBpX 0xCB) ∧
    decodeTableWord 16 0xD277 = some (.rmb7 0xD2) ∧
    decodeTableWord 8 0x78 = some .sei ∧
    decodeTableWord 24 0x99E079 = some (.adcAbsY 0x99E0) ∧
    decodeTableWord 8 0x7A = some .ply ∧
    decodeTableWord 8 0x7B = some .tba ∧
    decodeTableWord 24 0xA8F57C = some (.jmpAbsXInd 0xA8F5) ∧
    decodeTableWord 24 0xADFC7D = some (.adcAbsX 0xADFC) ∧
    decodeTableWord 24 0xB2037E = some (.rorAbsX 0xB203) ∧
    decodeTableWord 24 0xB70A7F = some (.bbr7 0x0A 0xB7) := by
  decide

theorem test_decode_row_8 :
    decodeTableWord 16 0x1180 = some (.bruRel 0x11) ∧
    decodeTableWord 16 0x1881 = some (.staBpXInd 0x18) ∧
    decodeTableWord 16 0x1F82 = some (.staSpIndY 0x1F) ∧
    decodeTableWord 24 0xCB2683 = some (.bruWrel 0xCB26) ∧
    decodeTableWord 16 0x2D84 = some (.styBp 0x2D) ∧
    decodeTableWord 16 0x3485 = some (.staBp 0x34) ∧
    decodeTableWord 16 0x3B86 = some (.stxBp 0x3B) ∧
    decodeTableWord 16 0x4287 = some (.smb0 0x42) ∧
    decodeTableWord 8 0x88 = some .dey ∧
    decodeTableWord 16 0x5089 = some (.bitImm 0x50) ∧
    decodeTableWord 8 0x8A = some .txa ∧
    decodeTableWord 24 0xF35E8B = some (.styAbsX 0xF35E) ∧
    decodeTableWord 24 0xF8658C = some (.styAbs 0xF865) ∧
    decodeTableWord 24 0xFD6C8D = some (.staAbs 0xFD6C) ∧
    decodeTableWord 24 0x02738E = some (.stxAbs 0x0273) ∧
    decodeTableWord 24 0x077A8F = some (.bbs0 0x7A 0x07) := by
  decide

theorem test_decode_row_9 :
    decodeTableWord 16 0x8190 = some (.bccRel 0x81) ∧
    decodeTableWord 16 0x8891 = some (.staBpIndY 0x88) ∧
    decodeTableWord 16 0x8F92 = some (.staBpIndZ 0x8F) ∧
    decodeTableWord 24 0x1B9693 = some (.bccWrel 0x1B96) ∧
    decodeTableWord 16 0x9D94 = some (.styBpX 0x9D) ∧
    decodeTableWord 16 0xA495 = some (.staBpX 0xA4) ∧
    decodeTableWord 16 0xAB96 = some (.stxBpY 0xAB) ∧
    decodeTableWord 16 0xB297 = some (.smb1 0xB2) ∧
    decodeTableWord 8 0x98 = some .tya ∧
    decodeTableWord 24 0x39C099 = some (.staAbsY 0x39C0) ∧
    decodeTableWord 8 0x9A = some .txs ∧
    decodeTableWord 24 0x43CE9B = some (.stxAbsY 0x43CE) ∧
    decodeTableWord 24 0x48D59C = some (.stzAbs 0x48D5) ∧
    decodeTableWord 24 0x4DDC9D = some (.staAbsX 0x4DDC) ∧
    decodeTableWord 24 0x52E39E = some (.stzAbsX 0x52E3) ∧
    decodeTableWord 24 0x57EA9F = some (.bbs1 0xEA 0x57) := by
  decide

theorem test_decode_row_A :
    decodeTableWord 16 0xF1A0 = some (.ldyImm 0xF1) ∧
    decodeTableWord 16 0xF8A1 = some (.ldaBpXInd 0xF8) ∧
    decodeTableWord 16 0xFFA2 = some (.ldxImm 0xFF) ∧
    decodeTableWord 16 0x06A3 = some (.ldzImm 0x06) ∧
    decodeTableWord 16 0x0DA4 = some (.ldyBp 0x0D) ∧
    decodeTableWord 16 0x14A5 = some (.ldaBp 0x14) ∧
    decodeTableWord 16 0x1BA6 = some (.ldxBp 0x1B) ∧
    decodeTableWord 16 0x22A7 = some (.smb2 0x22) ∧
    decodeTableWord 8 0xA8 = some .tay ∧
    decodeTableWord 16 0x30A9 = some (.ldaImm 0x30) ∧
    decodeTableWord 8 0xAA = some .tax ∧
    decodeTableWord 24 0x933EAB = some (.ldzAbs 0x933E) ∧
    decodeTableWord 24 0x9845AC = some (.ldyAbs 0x9845) ∧
    decodeTableWord 24 0x9D4CAD = some (.ldaAbs 0x9D4C) ∧
    decodeTableWord 24 0xA253AE = some (.ldxAbs 0xA253) ∧
    decodeTableWord 24 0xA75AAF = some (.bbs2 0x5A 0xA7) := by
  decide

theorem test_decode_row_B :
    decodeTableWord 16 0x61B0 = some (.bcsRel 0x61) ∧
    decodeTableWord 16 0x68B1 = some (.ldaBpIndY 0x68) ∧
    decodeTableWord 16 0x6FB2 = some (.ldaBpIndZ 0x6F) ∧
    decodeTableWord 24 0xBB76B3 = some (.bcsWrel 0xBB76) ∧
    decodeTableWord 16 0x7DB4 = some (.ldyBpX 0x7D) ∧
    decodeTableWord 16 0x84B5 = some (.ldaBpX 0x84) ∧
    decodeTableWord 16 0x8BB6 = some (.ldxBpY 0x8B) ∧
    decodeTableWord 16 0x92B7 = some (.smb3 0x92) ∧
    decodeTableWord 8 0xB8 = some .clv ∧
    decodeTableWord 24 0xD9A0B9 = some (.ldaAbsY 0xD9A0) ∧
    decodeTableWord 8 0xBA = some .tsx ∧
    decodeTableWord 24 0xE3AEBB = some (.ldzAbsX 0xE3AE) ∧
    decodeTableWord 24 0xE8B5BC = some (.ldyAbsX 0xE8B5) ∧
    decodeTableWord 24 0xEDBCBD = some (.ldaAbsX 0xEDBC) ∧
    decodeTableWord 24 0xF2C3BE = some (.ldxAbsY 0xF2C3) ∧
    decodeTableWord 24 0xF7CABF = some (.bbs3 0xCA 0xF7) := by
  decide

theorem test_decode_row_C :
    decodeTableWord 16 0xD1C0 = some (.cpyImm 0xD1) ∧
    decodeTableWord 16 0xD8C1 = some (.cmpBpXInd 0xD8) ∧
    decodeTableWord 16 0xDFC2 = some (.cpzImm 0xDF) ∧
    decodeTableWord 16 0xE6C3 = some (.dew 0xE6) ∧
    decodeTableWord 16 0xEDC4 = some (.cpyBp 0xED) ∧
    decodeTableWord 16 0xF4C5 = some (.cmpBp 0xF4) ∧
    decodeTableWord 16 0xFBC6 = some (.decBp 0xFB) ∧
    decodeTableWord 16 0x02C7 = some (.smb4 0x02) ∧
    decodeTableWord 8 0xC8 = some .iny ∧
    decodeTableWord 16 0x10C9 = some (.cmpImm 0x10) ∧
    decodeTableWord 8 0xCA = some .dex ∧
    decodeTableWord 24 0x331ECB = some (.asw 0x331E) ∧
    decodeTableWord 24 0x3825CC = some (.cpyAbs 0x3825) ∧
    decodeTableWord 24 0x3D2CCD = some (.cmpAbs 0x3D2C) ∧
    decodeTableWord 24 0x4233CE = some (.decAbs 0x4233) ∧
    decodeTableWord 24 0x473ACF = some (.bbs4 0x3A 0x47) := by
  decide

theorem test_decode_row_D :
    decodeTableWord 16 0x41D0 = some (.bneRel 0x41) ∧
    decodeTableWord 16 0x48D1 = some (.cmpBpIndY 0x48) ∧
    decodeTableWord 16 0x4FD2 = some (.cmpBpIndZ 0x4F) ∧
    decodeTableWord 24 0x5B56D3 = some (.bneWrel 0x5B56) ∧
    decodeTableWord 16 0x5DD4 = some (.cpzBp 0x5D) ∧
    decodeTableWord 16 0x64D5 = some (.cmpBpX 0x64) ∧
    decodeTableWord 16 0x6BD6 = some (.decBpX 0x6B) ∧
    decodeTableWord 16 0x72D7 = some (.smb5 0x72) ∧
    decodeTableWord 8 0xD8 = some .cld ∧
    decodeTableWord 24 0x7980D9 = some (.cmpAbsY 0x7980) ∧
    decodeTableWord 8 0xDA = some .phx ∧
    decodeTableWord 8 0xDB = some .phz ∧
    decodeTableWord 24 0x8895DC = some (.cpzAbs 0x8895) ∧
    decodeTableWord 24 0x8D9CDD = some (.cmpAbsX 0x8D9C) ∧
    decodeTableWord 24 0x92A3DE = some (.decAbsX 0x92A3) ∧
    decodeTableWord 24 0x97AADF = some (.bbs5 0xAA 0x97) := by
  decide

theorem test_decode_row_E :
    decodeTableWord 16 0xB1E0 = some (.cpxImm 0xB1) ∧
    decodeTableWord 16 0xB8E1 = some (.sbcBpXInd 0xB8) ∧
    decodeTableWord 16 0xBFE2 = some (.ldaSpIndY 0xBF) ∧
    decodeTableWord 16 0xC6E3 = some (.inw 0xC6) ∧
    decodeTableWord 16 0xCDE4 = some (.cpxBp 0xCD) ∧
    decodeTableWord 16 0xD4E5 = some (.sbcBp 0xD4) ∧
    decodeTableWord 16 0xDBE6 = some (.incBp 0xDB) ∧
    decodeTableWord 16 0xE2E7 = some (.smb6 0xE2) ∧
    decodeTableWord 8 0xE8 = some .inx ∧
    decodeTableWord 16 0xF0E9 = some (.sbcImm 0xF0) ∧
    decodeTableWord 8 0xEA = some .nop ∧
    decodeTableWord 24 0xD3FEEB = some (.row 0xD3FE) ∧
    decodeTableWord 24 0xD805EC = some (.cpxAbs 0xD805) ∧
    decodeTableWord 24 0xDD0CED = some (.sbcAbs 0xDD0C) ∧
    decodeTableWord 24 0xE213EE = some (.incAbs 0xE213) ∧
    decodeTableWord 24 0xE71AEF = some (.bbs6 0x1A 0xE7) := by
  decide

theorem test_decode_row_F :
    decodeTableWord 16 0x21F0 = some (.beqRel 0x21) ∧
    decodeTableWord 16 0x28F1 = some (.sbcBpIndY 0x28) ∧
    decodeTableWord 16 0x2FF2 = some (.sbcBpIndZ 0x2F) ∧
    decodeTableWord 24 0xFB36F3 = some (.beqWrel 0xFB36) ∧
    decodeTableWord 24 0x003DF4 = some (.phwImmW 0x003D) ∧
    decodeTableWord 16 0x44F5 = some (.sbcBpX 0x44) ∧
    decodeTableWord 16 0x4BF6 = some (.incBpX 0x4B) ∧
    decodeTableWord 16 0x52F7 = some (.smb7 0x52) ∧
    decodeTableWord 8 0xF8 = some .sed ∧
    decodeTableWord 24 0x1960F9 = some (.sbcAbsY 0x1960) ∧
    decodeTableWord 8 0xFA = some .plx ∧
    decodeTableWord 8 0xFB = some .plz ∧
    decodeTableWord 24 0x2875FC = some (.phwAbs 0x2875) ∧
    decodeTableWord 24 0x2D7CFD = some (.sbcAbsX 0x2D7C) ∧
    decodeTableWord 24 0x3283FE = some (.incAbsX 0x3283) ∧
    decodeTableWord 24 0x378AFF = some (.bbs7 0x8A 0x37) := by
  decide

/-- R90: too few bytes are refused by name. -/
theorem test_decode_truncated :
    (match decode [0x8D, 0x00] with
      | .error (.truncated op) => op == 0x8D
      | .error .empty => false
      | .ok _ => false) = true := by decide

/-! ## Single steps -/

/-- Only E is set: byte mode, interrupts masked by I. -/
def baseFlags : Flags := { State.reset.p with e := true, i := true }

/-- A machine about to fetch at $0200 with SP = $01FF. -/
def base : State := { State.reset with pc := 0x0200, sp := 0x01FF, p := baseFlags }

/-- The state after one step. -/
def next (s : State) : State :=
  match step s with
  | .next t => t
  | .fault _ => s
  | .refused _ => s

/-- R194 example: 50 + 50 sets N and V. -/
theorem test_adc :
    let t := next { base with mem := [(0x0200, 0x69), (0x0201, 0x50)], a := 0x50 }
    t.a = 0xA0 ∧ t.p.n = true ∧ t.p.v = true ∧ t.p.c = false := by
  decide

/-- R192: 58 + 46 + 1 is 05 with carry. -/
theorem test_adc_decimal :
    let t := next { base with mem := [(0x0200, 0x69), (0x0201, 0x46)], a := 0x58, p := { baseFlags with d := true, c := true } }
    t.a = 0x05 ∧ t.p.c = true := by
  decide

/-- R195 example: 50 - B0 borrows and overflows. -/
theorem test_sbc :
    let t := next { base with mem := [(0x0200, 0xE9), (0x0201, 0xB0)], a := 0x50, p := { baseFlags with c := true } }
    t.a = 0xA0 ∧ t.p.c = false ∧ t.p.v = true ∧ t.p.n = true := by
  decide

/-- R193: 46 - 12 is 34, no borrow. -/
theorem test_sbc_decimal :
    let t := next { base with mem := [(0x0200, 0xE9), (0x0201, 0x12)], a := 0x46, p := { baseFlags with d := true, c := true } }
    t.a = 0x34 ∧ t.p.c = true := by
  decide

/-- R196 example. -/
theorem test_and :
    let t := next { base with mem := [(0x0200, 0x29), (0x0201, 0x3C)], a := 0xF0 }
    t.a = 0x30 ∧ t.p.n = false ∧ t.p.zf = false := by
  decide

/-- R197 example. -/
theorem test_ora :
    let t := next { base with mem := [(0x0200, 0x09), (0x0201, 0x80)], a := 0x0F }
    t.a = 0x8F ∧ t.p.n = true := by
  decide

/-- R198 example. -/
theorem test_eor :
    let t := next { base with mem := [(0x0200, 0x49), (0x0201, 0xFF)], a := 0xFF }
    t.a = 0x00 ∧ t.p.zf = true := by
  decide

/-- R199 example: the immediate form writes N and V. -/
theorem test_bit :
    let t := next { base with mem := [(0x0200, 0x89), (0x0201, 0xC0)], a := 0x01 }
    t.a = 0x01 ∧ t.p.zf = true ∧ t.p.n = true ∧ t.p.v = true := by
  decide

/-- R200 example. -/
theorem test_cmp :
    let t := next { base with mem := [(0x0200, 0xC9), (0x0201, 0x41)], a := 0x40 }
    t.p.c = false ∧ t.p.zf = false ∧ t.p.n = true := by
  decide

/-- R201 example. -/
theorem test_cpx :
    let t := next { base with mem := [(0x0200, 0xE0), (0x0201, 0x08)], x := 0x10 }
    t.p.c = true ∧ t.p.zf = false ∧ t.p.n = false := by
  decide

/-- R202 example. -/
theorem test_cpy :
    let t := next { base with mem := [(0x0200, 0xC0), (0x0201, 0x01)] }
    t.p.c = false ∧ t.p.zf = false ∧ t.p.n = true := by
  decide

/-- R203 example. -/
theorem test_cpz :
    let t := next { base with mem := [(0x0200, 0xC2), (0x0201, 0x80)], z := 0x80 }
    t.p.c = true ∧ t.p.zf = true ∧ t.p.n = false := by
  decide

/-- R204: FF goes to 00, C is kept. -/
theorem test_inc :
    let t := next { base with mem := [(0x0200, 0xE6), (0x0201, 0x10), (0x2010, 0xFF)], b := 0x20, p := { baseFlags with c := true } }
    Memory.read t.mem 0x2010 = 0x00 ∧ t.p.zf = true ∧ t.p.c = true := by
  decide

/-- R205: 00 goes to FF. -/
theorem test_dec :
    let t := next { base with mem := [(0x0200, 0xDE), (0x0201, 0xF0), (0x0202, 0x12)], x := 0x20 }
    Memory.read t.mem 0x1310 = 0xFF ∧ t.p.n = true := by
  decide

/-- R208. -/
theorem test_inz :
    let t := next { base with mem := [(0x0200, 0x1B)], z := 0xFF }
    t.z = 0x00 ∧ t.p.zf = true := by
  decide

/-- R210. -/
theorem test_dey :
    let t := next { base with mem := [(0x0200, 0x88)] }
    t.y = 0xFF ∧ t.p.n = true := by
  decide

/-- R212 example: the carry goes to the high byte. -/
theorem test_inw :
    let t := next { base with mem := [(0x0020, 0xFF), (0x0021, 0x12), (0x0200, 0xE3), (0x0201, 0x20)] }
    Memory.read t.mem 0x20 = 0x00 ∧ Memory.read t.mem 0x21 = 0x13 ∧ t.p.zf = false := by
  decide

/-- R213, R139: the high byte of a word at offset FF is at offset 00. -/
theorem test_dew_wraps_in_base_page :
    let t := next { base with mem := [(0x0200, 0xC3), (0x0201, 0xFF), (0x2000, 0x01)], b := 0x20 }
    Memory.read t.mem 0x20FF = 0xFF ∧ Memory.read t.mem 0x2000 = 0x00 := by
  decide

/-- R214 example. -/
theorem test_neg :
    let t := next { base with mem := [(0x0200, 0x42)], a := 0x01 }
    t.a = 0xFF ∧ t.p.n = true := by
  decide

/-- R215 example. -/
theorem test_asl :
    let t := next { base with mem := [(0x0200, 0x0A)], a := 0x81 }
    t.a = 0x02 ∧ t.p.c = true ∧ t.p.n = false := by
  decide

/-- R216 example. -/
theorem test_lsr :
    let t := next { base with mem := [(0x0200, 0x4A)], a := 0x01 }
    t.a = 0x00 ∧ t.p.c = true ∧ t.p.zf = true := by
  decide

/-- R217 example. -/
theorem test_asr :
    let t := next { base with mem := [(0x0200, 0x43)], a := 0x82 }
    t.a = 0xC1 ∧ t.p.c = false ∧ t.p.n = true := by
  decide

/-- R218 example. -/
theorem test_rol :
    let t := next { base with mem := [(0x0200, 0x2A)], a := 0x80, p := { baseFlags with c := true } }
    t.a = 0x01 ∧ t.p.c = true := by
  decide

/-- R219: the old C enters bit 7. -/
theorem test_ror :
    let t := next { base with mem := [(0x0030, 0x01), (0x0200, 0x66), (0x0201, 0x30)], p := { baseFlags with c := true } }
    Memory.read t.mem 0x30 = 0x80 ∧ t.p.c = true ∧ t.p.n = true := by
  decide

/-- R220 example. -/
theorem test_asw :
    let t := next { base with mem := [(0x0200, 0xCB), (0x0202, 0x30), (0x3000, 0x80), (0x3001, 0xC0)] }
    Memory.read t.mem 0x3000 = 0x00 ∧ Memory.read t.mem 0x3001 = 0x81 ∧ t.p.c = true ∧ t.p.n = true := by
  decide

/-- R221 example. -/
theorem test_row :
    let t := next { base with mem := [(0x0200, 0xEB), (0x0202, 0x30), (0x3001, 0x80)], p := { baseFlags with c := true } }
    Memory.read t.mem 0x3000 = 0x01 ∧ Memory.read t.mem 0x3001 = 0x00 ∧ t.p.c = true ∧ t.p.zf = false := by
  decide

/-- R222 example. -/
theorem test_tsb :
    let t := next { base with mem := [(0x0030, 0xF0), (0x0200, 0x04), (0x0201, 0x30)], a := 0x0F }
    Memory.read t.mem 0x30 = 0xFF ∧ t.p.zf = true ∧ t.a = 0x0F := by
  decide

/-- R223 example. -/
theorem test_trb :
    let t := next { base with mem := [(0x0030, 0x3C), (0x0200, 0x14), (0x0201, 0x30)], a := 0x0F }
    Memory.read t.mem 0x30 = 0x30 ∧ t.p.zf = false := by
  decide

/-- R224 example. -/
theorem test_rmb3 :
    let t := next { base with mem := [(0x0040, 0xFF), (0x0200, 0x37), (0x0201, 0x40)] }
    Memory.read t.mem 0x40 = 0xF7 := by
  decide

/-- R225 example. -/
theorem test_smb7 :
    let t := next { base with mem := [(0x0200, 0xF7), (0x0201, 0x40)] }
    Memory.read t.mem 0x40 = 0x80 := by
  decide

/-- R160 example. -/
theorem test_bbr0 :
    let t := next { base with mem := [(0x0010, 0xFE), (0x1000, 0x0F), (0x1001, 0x10), (0x1002, 0x05)], pc := 0x1000 }
    t.pc = 0x1008 := by
  decide

/-- R161: bit 7 clear. -/
theorem test_bbs7_falls_through :
    let t := next { base with mem := [(0x0010, 0x7F), (0x1000, 0xFF), (0x1001, 0x10), (0x1002, 0xFD)], pc := 0x1000 }
    t.pc = 0x1003 := by
  decide

/-- R151 example. -/
theorem test_bcc :
    let t := next { base with mem := [(0x0200, 0x90), (0x0201, 0x10)] }
    t.pc = 0x0212 := by
  decide

/-- R152 example. -/
theorem test_bcs_word :
    let t := next { base with mem := [(0x0200, 0xB3), (0x0202, 0x01)], p := { baseFlags with c := true } }
    t.pc = 0x0302 := by
  decide

/-- R153 example. -/
theorem test_beq :
    let t := next { base with mem := [(0x1000, 0xF0), (0x1001, 0xFC)], pc := 0x1000, p := { baseFlags with zf := true } }
    t.pc = 0x0FFE := by
  decide

/-- R154 example. -/
theorem test_bmi :
    let t := next { base with mem := [(0xC000, 0x30), (0xC001, 0x7F)], pc := 0xC000, p := { baseFlags with n := true } }
    t.pc = 0xC081 := by
  decide

/-- R155 example. -/
theorem test_bne_not_taken :
    let t := next { base with mem := [(0x0205, 0xD0), (0x0206, 0xFB)], pc := 0x0205, p := { baseFlags with zf := true } }
    t.pc = 0x0207 := by
  decide

/-- R156 example. -/
theorem test_bpl :
    let t := next { base with mem := [(0x0300, 0x10), (0x0301, 0x80)], pc := 0x0300 }
    t.pc = 0x0282 := by
  decide

/-- R158 example. -/
theorem test_bvs_word :
    let t := next { base with mem := [(0x0400, 0x73), (0x0401, 0xFE), (0x0402, 0xFF)], pc := 0x0400, p := { baseFlags with v := true } }
    t.pc = 0x0400 := by
  decide

/-- R159 example. -/
theorem test_bru_word :
    let t := next { base with mem := [(0x2000, 0x83), (0x2001, 0xFE), (0x2002, 0x0F)], pc := 0x2000 }
    t.pc = 0x3000 := by
  decide

/-- R136 example. -/
theorem test_jmp_indirect :
    let t := next { base with mem := [(0x0200, 0x6C), (0x0202, 0x30), (0x3000, 0x78), (0x3001, 0x56)] }
    t.pc = 0x5678 := by
  decide

/-- R137 example. -/
theorem test_jmp_indexed_indirect :
    let t := next { base with mem := [(0x0200, 0x7C), (0x0202, 0x40), (0x4003, 0x90)], x := 0x02 }
    t.pc = 0x9000 := by
  decide

/-- R164 example. -/
theorem test_jsr :
    let t := next { base with mem := [(0x0300, 0x20), (0x0302, 0xC0)], pc := 0x0300 }
    Memory.read t.mem 0x01FF = 0x03 ∧ Memory.read t.mem 0x01FE = 0x02 ∧ t.sp = 0x01FD ∧ t.pc = 0xC000 := by
  decide

/-- R162 example. -/
theorem test_bsr :
    let t := next { base with mem := [(0x0300, 0x63), (0x0301, 0xFE)], pc := 0x0300 }
    Memory.read t.mem 0x01FF = 0x03 ∧ t.sp = 0x01FD ∧ t.pc = 0x0400 := by
  decide

/-- R165 example. -/
theorem test_rts :
    let t := next { base with mem := [(0x01FE, 0x02), (0x01FF, 0x03), (0x0200, 0x60)], sp := 0x01FD }
    t.pc = 0x0303 ∧ t.sp = 0x01FF := by
  decide

/-- R166 example. -/
theorem test_rtn :
    let t := next { base with mem := [(0x01FA, 0x02), (0x01FB, 0x03), (0x0200, 0x62), (0x0201, 0x04)], sp := 0x01F9 }
    t.pc = 0x0303 ∧ t.sp = 0x01FF := by
  decide

/-- R133 example. -/
theorem test_lda_stack_relative :
    let t := next { base with mem := [(0x01F4, 0x30), (0x0200, 0xE2), (0x0201, 0x03), (0x3005, 0x7E)], sp := 0x01F0, y := 0x05 }
    t.a = 0x7E := by
  decide

/-- R130 example. -/
theorem test_lda_indexed_indirect :
    let t := next { base with mem := [(0x0024, 0x74), (0x0025, 0x20), (0x0200, 0xA1), (0x0201, 0x20), (0x2074, 0x80)], x := 0x04 }
    t.a = 0x80 ∧ t.p.n = true := by
  decide

/-- R252 example. -/
theorem test_ldx_base_page_y :
    let t := next { base with mem := [(0x0012, 0x7F), (0x0200, 0xB6), (0x0201, 0x10)], y := 0x02 }
    t.x = 0x7F := by
  decide

/-- R253 example. -/
theorem test_ldy :
    let t := next { base with mem := [(0x0200, 0xA0), (0x0201, 0xFF)] }
    t.y = 0xFF ∧ t.p.n = true := by
  decide

/-- R254 example. -/
theorem test_ldz :
    let t := next { base with mem := [(0x0200, 0xA3), (0x0201, 0x05)] }
    t.z = 0x05 ∧ t.p.zf = false := by
  decide

/-- R131 example, R255. -/
theorem test_sta_indirect_y :
    let t := next { base with mem := [(0x0086, 0x28), (0x0087, 0x40), (0x0200, 0x91), (0x0201, 0x86)], a := 0x42, y := 0x10 }
    Memory.read t.mem 0x4038 = 0x42 := by
  decide

/-- R256 example. -/
theorem test_stx_absolute_y :
    let t := next { base with mem := [(0x0200, 0x9B), (0x0202, 0x30)], x := 0x07, y := 0x01 }
    Memory.read t.mem 0x3001 = 0x07 := by
  decide

/-- R257 example. -/
theorem test_sty_absolute_x :
    let t := next { base with mem := [(0x0200, 0x8B), (0x0201, 0xF8), (0x0202, 0x2F)], x := 0x10, y := 0x09 }
    Memory.read t.mem 0x3008 = 0x09 := by
  decide

/-- R258 example: the Z register is stored. -/
theorem test_stz :
    let t := next { base with mem := [(0x0200, 0x9C), (0x0202, 0x03)], z := 0x33 }
    Memory.read t.mem 0x0300 = 0x33 := by
  decide

/-- R259 corner. -/
theorem test_pha_byte_mode_wraps :
    let t := next { base with mem := [(0x0200, 0x48)], a := 0xAA, sp := 0x0100 }
    Memory.read t.mem 0x0100 = 0xAA ∧ t.sp = 0x01FF := by
  decide

/-- R259 corner. -/
theorem test_pha_word_mode :
    let t := next { base with mem := [(0x0200, 0x48)], a := 0xAA, sp := 0x0100, p := { baseFlags with e := false } }
    Memory.read t.mem 0x0100 = 0xAA ∧ t.sp = 0x00FF := by
  decide

/-- R260 example. -/
theorem test_php :
    let t := next { base with mem := [(0x0200, 0x08)], p := { baseFlags with n := true, c := true } }
    Memory.read t.mem 0x01FF = 0xB5 ∧ t.sp = 0x01FE := by
  decide

/-- R263 example. -/
theorem test_phz :
    let t := next { base with mem := [(0x0200, 0xDB)], z := 0x33, sp := 0x2000, p := { baseFlags with e := false } }
    Memory.read t.mem 0x2000 = 0x33 ∧ t.sp = 0x1FFF := by
  decide

/-- R264 example. -/
theorem test_phw :
    let t := next { base with mem := [(0x0200, 0xF4), (0x0201, 0x34), (0x0202, 0x12)] }
    Memory.read t.mem 0x01FF = 0x12 ∧ Memory.read t.mem 0x01FE = 0x34 ∧ t.sp = 0x01FD := by
  decide

/-- R265 corner. -/
theorem test_pla_byte_mode_wraps :
    let t := next { base with mem := [(0x0100, 0x5C), (0x0200, 0x68)] }
    t.a = 0x5C ∧ t.sp = 0x0100 := by
  decide

/-- R266 example: bit 5 does not reach E. -/
theorem test_plp :
    let t := next { base with mem := [(0x01FF, 0xC3), (0x0200, 0x28)], sp := 0x01FE }
    t.p = { baseFlags with n := true, v := true, i := false, zf := true, c := true } := by
  decide

/-- R269 example. -/
theorem test_plz :
    let t := next { base with mem := [(0x0200, 0xFB), (0x2000, 0x33)], sp := 0x1FFF, p := { baseFlags with e := false } }
    t.z = 0x33 ∧ t.sp = 0x2000 := by
  decide

/-- R270 example. -/
theorem test_tax :
    let t := next { base with mem := [(0x0200, 0xAA)], a := 0x80 }
    t.x = 0x80 ∧ t.p.n = true := by
  decide

/-- R276 example. -/
theorem test_tab_writes_no_flag :
    let t := next { base with mem := [(0x0200, 0x5B)], b := 0x20, p := { baseFlags with n := true } }
    t.b = 0x00 ∧ t.p.zf = false ∧ t.p.n = true := by
  decide

/-- R277 example. -/
theorem test_tba :
    let t := next { base with mem := [(0x0200, 0x7B)], a := 0x11 }
    t.a = 0x00 ∧ t.p.zf = true := by
  decide

/-- R278 example. -/
theorem test_tsx :
    let t := next { base with mem := [(0x0200, 0xBA)], sp := 0x01FD }
    t.x = 0xFD ∧ t.p.n = true := by
  decide

/-- R279 example. -/
theorem test_txs :
    let t := next { base with mem := [(0x0200, 0x9A)], x := 0xFF, sp := 0x0134 }
    t.sp = 0x01FF := by
  decide

/-- R280 example. -/
theorem test_tsy :
    let t := next { base with mem := [(0x0200, 0x0B)], sp := 0x01FD }
    t.y = 0x01 ∧ t.p.zf = false := by
  decide

/-- R281 example. -/
theorem test_tys :
    let t := next { base with mem := [(0x0200, 0x2B)], y := 0xC0 }
    t.sp = 0xC0FF := by
  decide

/-- R318 example. -/
theorem test_cle :
    let t := next { base with mem := [(0x0200, 0x02)], sp := 0x0100 }
    t.p.e = false ∧ t.sp = 0x0100 := by
  decide

/-- R314 example. -/
theorem test_sed :
    let t := next { base with mem := [(0x0200, 0xF8)] }
    t.p.d = true ∧ t.lastSingle = true := by
  decide

/-- R315: not a single-cycle opcode. -/
theorem test_cli :
    let t := next { base with mem := [(0x0200, 0x58)] }
    t.p.i = false ∧ t.lastSingle = false := by
  decide

/-- R321 example. -/
theorem test_aug :
    let t := next { base with mem := [(0x1000, 0x5C), (0x1001, 0x11), (0x1002, 0x22), (0x1003, 0x33)], pc := 0x1000 }
    t.pc = 0x1004 := by
  decide

/-- R322 example. -/
theorem test_brk :
    let t := next { base with mem := [(0x1001, 0x77), (0xFFFF, 0xC0)], pc := 0x1000, p := { baseFlags with i := false } }
    Memory.read t.mem 0x01FF = 0x10 ∧ Memory.read t.mem 0x01FE = 0x02 ∧ Memory.read t.mem 0x01FD = 0x30 ∧
      t.sp = 0x01FC ∧ t.p.i = true ∧ t.pc = 0xC000 := by
  decide

/-- R323 example. -/
theorem test_rti :
    let t := next { base with mem := [(0x01FD, 0x30), (0x01FE, 0x02), (0x01FF, 0x10), (0x0200, 0x40)], sp := 0x01FC }
    t.pc = 0x1002 ∧ t.sp = 0x01FF ∧ t.p = { baseFlags with i := false } := by
  decide

/-- R30: an instruction that straddles FFFF. -/
theorem test_fetch_wraps :
    let t := next { base with mem := [(0x0000, 0x42), (0xFFFF, 0xA9)], pc := 0xFFFF }
    t.a = 0x42 ∧ t.pc = 0x0001 := by
  decide

/-- R342, R351, R352: IRQ low, I clear; the pushed image has bit 4 clear. -/
theorem test_irq_taken :
    let t := next { base with mem := [(0x0200, 0xEA), (0xFFFF, 0x90)], pins := { Pins.idle with irq := false }, p := { baseFlags with i := false } }
    t.pc = 0x9000 ∧ t.sp = 0x01FC ∧ Memory.read t.mem 0x01FD = 0x20 ∧ t.p.i = true := by
  decide

/-- R342: I set. -/
theorem test_irq_masked :
    let t := next { base with mem := [(0x0200, 0xEA)], pins := { Pins.idle with irq := false } }
    t.pc = 0x0201 := by
  decide

/-- R348, R345: the latch is cleared, the NMI vector used. -/
theorem test_nmi_before_irq :
    let t := next { base with mem := [(0x0200, 0xEA), (0xFFFB, 0x80), (0xFFFF, 0x90)], nmiLatch := true, pins := { Pins.idle with irq := false }, p := { baseFlags with i := false } }
    t.pc = 0x8000 ∧ t.nmiLatch = false := by
  decide

/-- R343, R344: nothing is recognised after a single-cycle opcode. -/
theorem test_window_closed :
    let t := next { base with mem := [(0x0200, 0xE8)], nmiLatch := true, lastSingle := true }
    t.x = 0x01 ∧ t.nmiLatch = true := by
  decide

/-- R345: the falling edge arrives at this boundary. -/
theorem test_nmi_edge :
    let t := next { base with mem := [(0x0200, 0xEA), (0xFFFB, 0x80)], inputs := [[.nmi false]] }
    t.pc = 0x8000 := by
  decide

/-- R346: a fall of SO before BVS. -/
theorem test_so_sets_v :
    let t := next { base with mem := [(0x0200, 0x70), (0x0201, 0x10)], inputs := [[.so false]] }
    t.pc = 0x0212 ∧ t.p.v = true := by
  decide

/-- R347: RDY low, an IRQ pulse is lost, an NMI edge is kept. -/
theorem test_rdy_halts :
    let t := next { base with mem := [(0x0200, 0xEA)], inputs := [[.rdy false, .nmi false]] }
    t.pc = 0x0200 ∧ t.nmiLatch = true := by
  decide

/-- R73: another master writes while RDY is low. -/
theorem test_dma :
    let t := next { base with mem := [(0x0200, 0xEA)], inputs := [[.rdy false, .dma 0x0300 0x55]] }
    Memory.read t.mem 0x0300 = 0x55 ∧ t.pc = 0x0200 := by
  decide

/-- R380: RES falls and rises; the sequence runs. -/
theorem test_reset :
    let t := next { base with mem := [(0x0200, 0xEA), (0xFFFD, 0xE0)], b := 0x44, z := 0x55, inputs := [[.res false, .res true]] }
    t.pc = 0xE000 ∧ t.b = 0x00 ∧ t.z = 0x00 ∧ t.p.e = true ∧ t.p.i = true := by
  decide

/-- R63, D29: a store to ROM changes nothing. -/
theorem test_rom_ignores_writes :
    let t := next { base with mem := [(0x0200, 0x8D), (0x0202, 0x80), (0x8000, 0x11)], a := 0x42, cfg := { Params.specDefault with memMap := [⟨0x8000, 0x8000, .rom⟩] } }
    Memory.read t.mem 0x8000 = 0x11 := by
  decide

/-- D4: TRAP_CLEARS_D = unchanged. -/
theorem test_trap_keeps_d :
    let t := next { base with mem := [], cfg := { Params.specDefault with trapClearsD := .unchanged }, p := { baseFlags with d := true } }
    t.p.d = true := by
  decide

/-- D8: PHW_ORDER = low_first. -/
theorem test_phw_low_first :
    let t := next { base with mem := [(0x0200, 0xF4), (0x0201, 0x34), (0x0202, 0x12)], cfg := { Params.specDefault with phwOrder := .lowFirst } }
    Memory.read t.mem 0x01FF = 0x34 ∧ Memory.read t.mem 0x01FE = 0x12 := by
  decide

/-- D3: PULL_P_WRITES_E. -/
theorem test_plp_writes_e :
    let t := next { base with mem := [(0x01FF, 0x04), (0x0200, 0x28)], sp := 0x01FE, cfg := { Params.specDefault with pullPWritesE := true } }
    t.p.e = false := by
  decide

/-- D25. -/
theorem test_rtn_adjust_then_pull :
    let t := next { base with mem := [(0x01FB, 0x99), (0x01FC, 0x05), (0x01FD, 0x04), (0x0200, 0x62), (0x0201, 0x01)], sp := 0x01FA, cfg := { Params.specDefault with rtnOrder := .adjustThenPull } }
    t.pc = 0x0406 ∧ t.sp = 0x01FD := by
  decide

/-- R66, R75: a byte another master puts between the read and the write of INC is lost, one before the read is incremented. -/
theorem test_rmw_not_atomic :
    let t := next { base with mem := [(0x0200, 0xEE), (0x0202, 0x03), (0x0300, 0x05)], inputs := [[.halt .writeLo [(0x0300, 0x10)]]] }
    Memory.read t.mem 0x0300 = 0x06 ∧
    Memory.read (next { base with mem := [(0x0200, 0xEE), (0x0202, 0x03), (0x0300, 0x05)], inputs := [[.halt .dataLo [(0x0300, 0x10)]]] }).mem 0x0300 = 0x11 := by
  decide

/-- R66, R73: both bytes of a pointer change between its two reads. -/
theorem test_torn_pointer :
    let t := next { base with mem := [(0x0200, 0x6C), (0x0202, 0x30), (0x3000, 0x78), (0x3001, 0x56)], inputs := [[.halt .pointerHi [(0x3000, 0x12), (0x3001, 0x9A)]]] }
    t.pc = 0x9A78 ∧ t.dma = [] ∧ Memory.read t.mem 0x3000 = 0x12 := by
  decide

/-- R42, R73: RDY low before the write of STA; the address is held, the drivers are off, then the write follows. -/
theorem test_halted_cycle :
    let t := next { base with mem := [(0x0200, 0x8D), (0x0202, 0x30)], a := 0x42, inputs := [[.halt .writeLo []]] }
    t.bus.drop 3 = [⟨.writeLo, 0x3000, true, none, false⟩, writeCycle .writeLo 0x3000 0x42] := by
  decide

/-- R42, R73: the processor stands on the opcode fetch. -/
theorem test_rdy_holds_the_address :
    let t := next { base with mem := [(0x0200, 0xEA)], pins := { Pins.idle with rdy := false } }
    t.bus = [⟨.opcode, 0x0200, false, none, false⟩] := by
  decide

/-- R63: the byte stands on D0-D7 of the write cycle; memory is as it was. -/
theorem test_device_sees_the_byte :
    let t := next { base with mem := [(0x0200, 0x8D), (0x0202, 0xD0)], a := 0x42, cfg := { Params.specDefault with memMap := [⟨0xD000, 0x100, .device⟩] } }
    t.bus.drop 3 = [⟨.writeLo, 0xD000, true, some 0x42, true⟩] ∧ Memory.read t.mem 0xD000 = 0x00 := by
  decide

/-- R396, P5 of spec/95_test_vectors.md: a branch to itself ends the run. -/
theorem test_run_ends_at_self_branch :
    State.runEnds { base with mem := [(0x0200, 0x80), (0x0201, 0xFE)] } = true := by decide

/-- R396, R346, R342: what the environment does meanwhile does not keep the run from ending there: a
fall of SO, a masked IRQ, a halt. -/
theorem test_run_ends_whatever_the_inputs :
    ([[.so false], [.irq false], [.irq true], [.halt .operand1 []]] : List (List Input)).all
      (fun batch => State.runEnds { base with
        mem := [(0x0200, 0x80), (0x0201, 0xFE)]
        inputs := [batch]
        p := { baseFlags with i := true } }) = true := by decide

/-- R396, R343: nor does it end where NMI falls at the boundary after the branch. -/
theorem test_run_goes_on_to_the_nmi :
    State.runEnds { base with
      mem := [(0x0200, 0x80), (0x0201, 0xFE)]
      inputs := [[], [.nmi false]] } = false := by decide

/-- R396, R344: not where the IRQ that a single-cycle opcode has put off is taken right after it. -/
theorem test_run_goes_on_to_the_irq :
    State.runEnds { base with
      mem := [(0x0200, 0x80), (0x0201, 0xFE)]
      lastSingle := true
      pins := { Pins.idle with irq := false }
      p := { baseFlags with i := false } } = false := by decide

/-! ## Witnesses: the hypotheses of each statement are met, each clause's at a boundary value -/

open Sys2Proof.Claims

/-- Word mode, the stack pointer at the bottom of a page. -/
def wide : State := { base with p := { baseFlags with e := false }, sp := 0x0100 }

/-- A map whose regions end at both ends of the address space. -/
def mapped : State :=
  { base with cfg := { Params.specDefault with
      memMap := [⟨0x0000, 0x1000, .nothing⟩, ⟨0x1000, 0x1000, .device⟩, ⟨0xC000, 0x4000, .rom⟩] } }

/-- `base` with a program at $0200. -/
def holding (code : List (Nat × Byte)) : State := { base with mem := code }

theorem witness_DecodeOfEncode :
    Instr.wf (.brk 0x00) = true ∧ Instr.wf (.aug 0xFF 0xFF 0xFF) = true := by decide

theorem witness_EncodeOfDecode :
    4 ≤ ([0x00, 0x00, 0x00, 0x00] : List Byte).length ∧
    4 ≤ ([0xFF, 0xFF, 0xFF, 0xFF, 0xFF] : List Byte).length := by decide

theorem witness_SingleCycleOpcodes :
    Instr.singleCycle .nop = true ∧ Instr.singleCycle .neg = false := by decide

theorem witness_BusCyclesStartWithOpcodeFetch :
    base.bus = [] ∧ (∃ t, exec (.incAbs 0xFFFF) base = .next t) ∧
    Instr.mnemonic (.incAbs 0xFFFF) ≠ "ROW" := ⟨by decide, ⟨_, rfl⟩, by decide⟩

theorem witness_PointerAddresses :
    (base.p.e = true ∧ base.cfg.stackRelPageWrap = true) ∧ wide.p.e = false ∧
    ({ base with cfg := { Params.specDefault with stackRelPageWrap := false } } :
      State).cfg.stackRelPageWrap = false := by decide

theorem witness_StackPointerSteps :
    ({ base with sp := 0x0100 } : State).p.e = true ∧ base.p.e = true ∧ wide.p.e = false ∧
    ({ wide with sp := 0xFFFF } : State).p.e = false := by decide

theorem witness_MemoryReadsAndWrites :
    Memory.wf mapped.mem = true ∧ mapped.answer 0x2000 = .ram ∧ mapped.answer 0xBFFF = .ram ∧
    (0x0000 : Word) ≠ 0xFFFF ∧ mapped.answer 0x0FFF ≠ .ram ∧ mapped.answer 0x1000 ≠ .ram ∧
    mapped.answer 0xFFFF = .rom ∧ mapped.answer 0xC000 = .rom ∧ base.dma = [] ∧
    ({ base with dma := [⟨.dataLo, 0x2000, 0xFF⟩] } : State).dma = [] ++ [⟨.dataLo, 0x2000, 0xFF⟩] := by
  decide

/-- A quiet boundary, and one with a halt inside the instruction. -/
theorem witness_StepRunsDecodedInstruction :
    let s := holding [(0x200, 0xEA)]
    let h := { holding [(0x200, 0xEE)] with inputs := [[.halt .writeLo [(0x0000, 0x01)]]] }
    (s.quiet = true ∧ NoInterrupt s ∧ Instr.wf .nop = true ∧
      fetched (atBoundary s) = .ok (.nop, [0, 0, 0]) ∧ ∃ u, exec .nop (atBoundary s) = .next u) ∧
    h.boundary.halted = false ∧ h.boundary.resetDue = false ∧ h.boundary.resCut = false ∧
    NoInterrupt h.boundary ∧ fetched h.boundary = .ok (.incAbs 0x0000, [0]) ∧
    ∃ u, exec (.incAbs 0x0000) h.boundary = .next u :=
  ⟨⟨by decide, .inr ⟨by decide, .inl (by decide)⟩, by decide, rfl, _, rfl⟩, by decide, by decide,
    by decide, .inr ⟨by decide, .inl (by decide)⟩, rfl, _, rfl⟩

/-- The other ways no interrupt can be recognised. -/
theorem witness_NoInterrupt :
    NoInterrupt { base with lastSingle := true, nmiLatch := true } ∧
    NoInterrupt { base with pins := { Pins.idle with irq := false } } :=
  ⟨.inl (by decide), .inr ⟨by decide, .inr (by decide)⟩⟩

theorem witness_StepKeepsInvariant :
    base.Inv ∧ State.Inv { base with pins := { Pins.idle with clock := false, so := false } } ∧
    ∃ t, step base = .next t :=
  ⟨⟨by decide, by decide, by decide, by decide⟩, ⟨by decide, by decide, by decide, by decide⟩, _, rfl⟩

theorem witness_StepKeepsParameters : ∃ t, step base = .next t := ⟨_, rfl⟩

theorem witness_InstructionStoresOnlyAtItsWriteCycles :
    Memory.wf base.mem = true ∧ (∃ t, exec (.staAbs 0xFFFF) base = .next t) ∧
    (0x0000 : Word) ∉ writeAddresses (.staAbs 0xFFFF) base ∧
    (∃ t, exec (.staAbs 0xFFFF) mapped = .next t) ∧ mapped.answer 0xFFFF ≠ .ram ∧
    (∃ t, exec .nop base = .next t) ∧ writeAddresses .nop base = [] :=
  ⟨by decide, ⟨_, rfl⟩, by decide, ⟨_, rfl⟩, by decide, ⟨_, rfl⟩, by decide⟩

theorem witness_RegisterWriters :
    (∃ t, exec (.ldaImm 0xFF) base = .next t ∧ t.a ≠ base.a) ∧
    (∃ t, exec .incA base = .next t ∧ t.a ≠ base.a) ∧
    (∃ t, exec .dex base = .next t ∧ t.x ≠ base.x) ∧
    (∃ t, exec .dey base = .next t ∧ t.y ≠ base.y) ∧
    (∃ t, exec .dez base = .next t ∧ t.z ≠ base.z) ∧
    (∃ t, exec .tab { base with a := 0x01 } = .next t ∧ t.b ≠ base.b) ∧
    (∃ t, exec .txs base = .next t ∧ t.sp ≠ base.sp) :=
  ⟨⟨_, rfl, by decide⟩, ⟨_, rfl, by decide⟩, ⟨_, rfl, by decide⟩, ⟨_, rfl, by decide⟩,
    ⟨_, rfl, by decide⟩, ⟨_, rfl, by decide⟩, ⟨_, rfl, by decide⟩⟩

theorem witness_FlagWriters :
    (∃ t, exec .dex base = .next t ∧ t.p.n ≠ base.p.n) ∧
    (∃ t, exec (.ldaImm 0) base = .next t ∧ t.p.zf ≠ base.p.zf) ∧
    (∃ t, exec (.bitImm 0x40) base = .next t ∧ t.p.v ≠ base.p.v) ∧
    (∃ t, exec .cle base = .next t ∧ t.p.e ≠ base.p.e) ∧
    (∃ t, exec .sed base = .next t ∧ t.p.d ≠ base.p.d) ∧
    (∃ t, exec .cli base = .next t ∧ t.p.i ≠ base.p.i) ∧
    (∃ t, exec .sec base = .next t ∧ t.p.c ≠ base.p.c) :=
  ⟨⟨_, rfl, by decide⟩, ⟨_, rfl, by decide⟩, ⟨_, rfl, by decide⟩, ⟨_, rfl, by decide⟩,
    ⟨_, rfl, by decide⟩, ⟨_, rfl, by decide⟩, ⟨_, rfl, by decide⟩⟩

/-- E changed by PLP under `PULL_P_WRITES_E`. -/
theorem witness_FlagWriters_plp :
    let s := { base with cfg := { Params.specDefault with pullPWritesE := true } }
    ∃ t, exec .plp s = .next t ∧ t.p.e ≠ s.p.e := ⟨_, rfl, by decide⟩

theorem witness_StackPageKeptInByteMode :
    (∃ t, exec .pha { base with sp := 0x0100 } = .next t) ∧
    ({ base with sp := 0x0100 } : State).p.e = true ∧ Instr.pha ≠ .tys ∧
    (∃ t, exec .rti base = .next t) ∧ Instr.rti ≠ .tys ∧ base.cfg.pullPWritesE = false :=
  ⟨⟨_, rfl⟩, by decide, by decide, ⟨_, rfl⟩, by decide, by decide⟩

theorem witness_PcAdvancesByLength :
    let s := { base with pc := 0xFFFF }
    (∃ t, exec (.aug 0 0 0) s = .next t) ∧ Instr.mode (.aug 0 0 0) ≠ .rel ∧
    Instr.mode (.aug 0 0 0) ≠ .wrel ∧ Instr.mode (.aug 0 0 0) ≠ .bpRel ∧
    Instr.mnemonic (.aug 0 0 0) ∉ ["JMP", "JSR", "RTS", "RTN", "RTI", "BRK"] :=
  ⟨⟨_, rfl⟩, by decide, by decide, by decide, by decide⟩

theorem witness_InstructionLeavesThePinsAlone : ∃ t, exec (.brk 0) base = .next t := ⟨_, rfl⟩

/-- The memory hypothesis of every statement about a storing instruction, on a memory that lists the
first and the last address. -/
theorem witness_canonicalMemory :
    Memory.wf (holding [(0x0000, 0x01), (0xFFFF, 0xFF)]).mem = true ∧ Memory.wf mapped.mem = true := by
  decide

theorem witness_BinaryAddAndSubtract : base.p.d = false := by decide

/-- Decimal operands with the digits 0 and 9 in each place; the second is read from memory. -/
theorem witness_DecimalAddAndSubtract :
    let s := { holding [(0x10, 0x09)] with a := 0x90, p := { baseFlags with d := true } }
    s.p.d = true ∧ s.a = digits 9 0 ∧ s.dataAt (eaBp 0x10 s) = digits 0 9 ∧
    (0x99 : Byte) = digits 9 9 := by decide

/-- Each digit in turn is the least invalid one. -/
theorem witness_DecimalWithInvalidDigits :
    ({ base with p := { baseFlags with d := true } } : State).p.d = true ∧
    SomeDigitInvalid 0x0A 0x00 ∧ SomeDigitInvalid 0xA0 0x00 ∧ SomeDigitInvalid 0x00 0x0A ∧
    SomeDigitInvalid 0x00 0xA0 :=
  ⟨by decide, .inl (by decide), .inr (.inl (by decide)), .inr (.inr (.inl (by decide))),
    .inr (.inr (.inr (by decide)))⟩

theorem witness_ReturnsPullTheAddress :
    base.cfg.rtnOrder = .pullThenAdjust ∧
    ({ base with cfg := { Params.specDefault with rtnOrder := .adjustThenPull } } :
      State).cfg.rtnOrder = .adjustThenPull := by decide

theorem witness_PushStatusAndPushWord :
    Memory.wf base.mem = true ∧ base.cfg.phwOrder = .highFirst ∧
    ({ base with cfg := { Params.specDefault with phwOrder := .lowFirst } } :
      State).cfg.phwOrder = .lowFirst := by decide

/-- D after trap entry under each value of `TRAP_CLEARS_D`. -/
theorem witness_BreakTakesTheTrap :
    Memory.wf base.mem = true ∧ TrapD base false ∧
    TrapD { base with
      cfg := { Params.specDefault with trapClearsD := .unchanged }
      p := { baseFlags with d := true } } true ∧
    TrapD { base with cfg := { Params.specDefault with trapClearsD := .unspecified } } true := by
  refine ⟨by decide, ⟨fun _ => rfl, fun h => ?_⟩, ⟨fun h => ?_, fun _ => rfl⟩,
    ⟨fun h => ?_, fun h => ?_⟩⟩ <;> cases h

theorem witness_PushThenPullRestores :
    let s := { base with a := 0x80, sp := 0x0100 }
    Memory.wf s.mem = true ∧ s.answer s.sp = .ram ∧ s.dma = [] ∧ (∃ t, exec .pha s = .next t) ∧
    (∃ t, exec .phx s = .next t) ∧ (∃ t, exec .phy s = .next t) ∧ (∃ t, exec .phz s = .next t) ∧
    (∃ t, exec .php s = .next t) ∧ ({ s.p with c := true } : Flags).e = s.p.e :=
  ⟨by decide, by decide, by decide, ⟨_, rfl⟩, ⟨_, rfl⟩, ⟨_, rfl⟩, ⟨_, rfl⟩, ⟨_, rfl⟩, by decide⟩

theorem witness_CallThenReturnComesBack :
    Memory.wf wide.mem = true ∧ StackInRam wide 2 ∧ StackInRam base 2 ∧ wide.dma = [] ∧
    base.dma = [] ∧
    Instr.mnemonic (.jsrAbsXInd 0xFFFF) = "JSR" ∧ Instr.mnemonic (.bsr 0x8000) = "BSR" ∧
    (∃ t, exec (.jsrAbsXInd 0xFFFF) wide = .next t) ∧ (∃ t, exec (.bsr 0x8000) base = .next t) :=
  ⟨by decide, fun _ _ => rfl, fun _ _ => rfl, by decide, by decide, by decide, by decide, ⟨_, rfl⟩,
    ⟨_, rfl⟩⟩

theorem witness_TrapThenReturnResumes :
    Memory.wf wide.mem = true ∧ StackInRam wide 3 ∧ StackInRam base 3 ∧ wide.dma = [] ∧
    base.dma = [] ∧
    (∃ t, exec (.brk 0xFF) wide = .next t) ∧ (∃ t, exec (.brk 0xFF) base = .next t) :=
  ⟨by decide, fun _ _ => rfl, fun _ _ => rfl, by decide, by decide, ⟨_, rfl⟩, ⟨_, rfl⟩⟩

theorem witness_PushedWordServesStackRelative :
    let s := { base with sp := 0x0100 }
    Memory.wf s.mem = true ∧ StackInRam s 2 ∧ s.dma = [] ∧ s.cfg.phwOrder = .highFirst ∧
    s.cfg.stackRelPageWrap = true ∧ ∃ t, exec (.phwImmW 0xFFFF) s = .next t :=
  ⟨by decide, fun _ _ => rfl, by decide, by decide, by decide, _, rfl⟩

theorem witness_ArithmeticLaws :
    let s := { base with a := 0x80, p := { baseFlags with c := true } }
    s.p.d = false ∧ s.p.c = true ∧ base.p.c = false ∧
    (∃ t, exec (.sbcImm 0x80) s = .next t) ∧ (∃ u, exec (.cmpImm 0x80) s = .next u) ∧
    (∃ t, exec (.adcImm 0) base = .next t) ∧ (∃ t, exec (.sbcImm 0) s = .next t) ∧
    (∃ t u, exec .neg s = .next t ∧ exec .neg t = .next u) ∧
    (∃ t u, exec .rolA s = .next t ∧ exec .rorA t = .next u) ∧
    (∃ t u, exec .rorA s = .next t ∧ exec .rolA t = .next u) :=
  ⟨by decide, by decide, by decide, ⟨_, rfl⟩, ⟨_, rfl⟩, ⟨_, rfl⟩, ⟨_, rfl⟩, ⟨_, _, rfl, rfl⟩,
    ⟨_, _, rfl, rfl⟩, ⟨_, _, rfl, rfl⟩⟩

/-- The word at $FFFF continues at $0000, the word at base-page offset $FF at offset $00. -/
theorem witness_MemoryLaws :
    Memory.wf base.mem = true ∧ base.dma = [] ∧ base.answer 0xFFFF = .ram ∧
    base.answer (0xFFFF + 1) = .ram ∧
    (∃ t u, exec (.aslAbs 0xFFFF) base = .next t ∧ exec (.rolAbs (0xFFFF + 1)) t = .next u) ∧
    (∃ v, exec (.asw 0xFFFF) base = .next v) ∧
    (∃ t u, exec (.incAbs 0xFFFF) base = .next t ∧ exec (.decAbs 0xFFFF) t = .next u) ∧
    base.answer (eaBp 0xFF base) = .ram ∧ base.answer (eaBpNext 0xFF base) = .ram ∧
    (∃ t u, exec (.inw 0xFF) base = .next t ∧ exec (.dew 0xFF) t = .next u) ∧
    (∃ t u, exec (.tsbAbs 0xFFFF) base = .next t ∧ exec (.trbAbs 0xFFFF) t = .next u) :=
  ⟨by decide, by decide, by decide, by decide, ⟨_, _, rfl, rfl⟩, ⟨_, rfl⟩, ⟨_, _, rfl, rfl⟩, by decide,
    by decide, ⟨_, _, rfl, rfl⟩, ⟨_, _, rfl, rfl⟩⟩

/-- A pending NMI, and an IRQ that I lets through. -/
theorem witness_InterruptsAreTaken :
    let s := { base with nmiLatch := true }
    let u := { base with
      pins := { Pins.idle with irq := false }
      p := { baseFlags with i := false } }
    (Memory.wf s.mem = true ∧ s.quiet = true ∧ s.lastSingle = false ∧ s.nmiLatch = true) ∧
    Memory.wf u.mem = true ∧ u.quiet = true ∧ u.lastSingle = false ∧ u.nmiLatch = false ∧
      u.pins.irq = false ∧ u.p.i = false := by decide

/-- Both orders, with an NMI edge and an IRQ level between the two instructions. -/
theorem witness_NoInterruptBetweenTxsAndTys :
    let batch : List Input := [.nmi false, .irq false]
    let s := { holding [(0x200, 0x9A), (0x201, 0x2B)] with inputs := [[], batch] }
    let u := { holding [(0x200, 0x2B), (0x201, 0x9A)] with inputs := [[], batch] }
    (holdsOpcodes s 0x9A 0x2B ∧ s.quiet = true ∧ NoInterrupt s ∧ s.inputs = [] :: batch :: []) ∧
    (holdsOpcodes u 0x2B 0x9A ∧ u.quiet = true ∧ NoInterrupt u ∧ u.inputs = [] :: batch :: []) ∧
    batch.all movesInterruptPin = true :=
  ⟨⟨⟨rfl, rfl, rfl, rfl⟩, by decide, .inr ⟨rfl, .inl rfl⟩, rfl⟩,
    ⟨⟨rfl, rfl, rfl, rfl⟩, by decide, .inr ⟨rfl, .inl rfl⟩, rfl⟩, by decide⟩

theorem witness_ResetSequenceSetsWhatTheSpecLists :
    let due := { base with resetDue := true, nmiLatch := true }
    let rises := { base with pins := { Pins.idle with res := false }, inputs := [[.res true]] }
    let stalled := { due with
      inputs := [[.halt .vectorHi [(0xFFFC, 0x34), (0xFFFD, 0x12)]]] }
    (due.boundary.halted = false ∧ due.boundary.resetDue = true ∧ due.boundary.resCut = false ∧
      due.boundary.dma = []) ∧
    (rises.boundary.halted = false ∧ rises.boundary.resetDue = true ∧
      rises.boundary.resCut = false ∧ rises.boundary.dma = []) ∧
    stalled.boundary.halted = false ∧ stalled.boundary.resetDue = true ∧
    stalled.boundary.resCut = false := by decide

theorem witness_PinsActAtTheirEdges :
    base.pins.clock = true ∧ base.pins.rdy = true ∧ base.dma = [] ∧
    ({ base with pins := { Pins.idle with rdy := false } } : State).pins.rdy = false := by decide

/-- A write before the read, between the read and the write, and after the write of INC; a pointer
changed before its first read and between its two reads. -/
theorem witness_OtherMastersActBetweenBusCycles :
    let halted := fun slot => ({ base with dma := [⟨slot, 0xFFFF, 0x01⟩] } : State)
    let two := fun slot =>
      ({ base with dma := [⟨slot, 0xFFFF, 0x01⟩, ⟨slot, 0xFFFF + 1, 0x02⟩] } : State)
    Memory.wf base.mem = true ∧ base.answer 0xFFFF = .ram ∧ base.answer (0xFFFF + 1) = .ram ∧
    byteAt base 0xFFFF = 0x00 ∧ slotRank .dataLo ≤ slotRank .dataLo ∧
    slotRank .writeLo ≤ slotRank .writeLo ∧ slotRank .writeLo < slotRank .writeHi ∧
    slotRank .pointerLo ≤ slotRank .pointerLo ∧
    (∃ t, exec (.incAbs 0xFFFF) (halted .dataLo) = .next t) ∧
    (∃ t, exec (.incAbs 0xFFFF) (halted .writeLo) = .next t) ∧
    (∃ t, exec (.incAbs 0xFFFF) (halted .writeHi) = .next t) ∧
    (∃ t, exec (.jmpAbsInd 0xFFFF) (two .pointerLo) = .next t) ∧
    ∃ t, exec (.jmpAbsInd 0xFFFF) (two .pointerHi) = .next t :=
  ⟨by decide, by decide, by decide, by decide, by decide, by decide, by decide, by decide,
    ⟨_, rfl⟩, ⟨_, rfl⟩, ⟨_, rfl⟩, ⟨_, rfl⟩, _, rfl⟩

theorem witness_HaltedStepChangesNothing :
    (base.inputs.headD []).isEmpty = true ∧ base.resCut = false ∧
    ({ base with pins := { Pins.idle with rdy := false } } : State).pins.rdy = false ∧
    ({ base with pins := { Pins.idle with clock := false } } : State).pins.clock = false ∧
    ({ base with pins := { Pins.idle with res := false } } : State).pins.res = false := by decide

theorem witness_AbandonedInstructionLeavesOldOrNewBytes :
    let s := { holding [(0x200, 0x48)] with
      a := 0x55
      inputs := [[.halt .push1 [(0x300, 0x11)], .resCut]] }
    Memory.wf s.mem = true ∧ s.boundary.resCut = true ∧ (∃ t, step s = .next t) ∧
    ∃ u, land (s.boundary.setResCut false).cycle = .next u :=
  ⟨by decide, by decide, ⟨_, rfl⟩, _, rfl⟩

end Sys2Proof.Tests
end

section
/-! PROOFS. The stack pointer's steps as arithmetic: modulo 256 on SPL in byte mode, modulo 65,536 on SP
in word mode. -/

namespace Sys2Proof.Machine

@[simp] theorem State.decSp_sp (s : State) : s.decSp.sp = spDown s.p.e s.sp 1 := rfl

theorem spDown_byteMode_loByte (sp : Word) (n : Byte) :
    (loByte (spDown true sp n)).toNat = ((loByte sp).toNat + (256 - n.toNat)) % 256 := by
  simp [spDown, BitVec.toNat_sub, Nat.add_comm]

theorem spUp_byteMode_loByte (sp : Word) (n : Byte) :
    (loByte (spUp true sp n)).toNat = ((loByte sp).toNat + n.toNat) % 256 := by
  simp [spUp, BitVec.toNat_add]

theorem spDown_wordMode (sp : Word) (n : Byte) :
    (spDown false sp n).toNat = (sp.toNat + (65536 - n.toNat)) % 65536 := by
  have hn : n.toNat % 65536 = n.toNat := Nat.mod_eq_of_lt (by omega)
  simp [spDown, BitVec.toNat_sub, hn, Nat.add_comm]

theorem spUp_wordMode (sp : Word) (n : Byte) :
    (spUp false sp n).toNat = (sp.toNat + n.toNat) % 65536 := by
  simp [spUp, BitVec.toNat_add]

/-- R27: the carry out of SPL is lost. -/
theorem State.stepSp_byteMode {s : State} (he : s.p.e = true) :
    s.decSp.sph = s.sph ∧ s.decSp.spl.toNat = (s.spl.toNat + 255) % 256 ∧
      s.incSp.sph = s.sph ∧ s.incSp.spl.toNat = (s.spl.toNat + 1) % 256 := by
  simp only [State.sph, State.spl, State.decSp_sp, State.incSp_sp, he]
  exact ⟨spDown_page s.sp 1, spDown_byteMode_loByte s.sp 1, spUp_page s.sp 1,
    spUp_byteMode_loByte s.sp 1⟩

/-- R28 with the wrap of D13. -/
theorem State.stepSp_wordMode {s : State} (he : s.p.e = false) :
    s.decSp.sp.toNat = (s.sp.toNat + 65535) % 65536 ∧
      s.incSp.sp.toNat = (s.sp.toNat + 1) % 65536 := by
  simp only [State.decSp_sp, State.incSp_sp, he]
  exact ⟨spDown_wordMode s.sp 1, spUp_wordMode s.sp 1⟩

theorem State.stepSp_frame (s : State) :
    (∃ a, s.decSp = { s with sp := a }) ∧ ∃ a, s.incSp = { s with sp := a } :=
  ⟨⟨spDown s.p.e s.sp 1, rfl⟩, spUp s.p.e s.sp 1, rfl⟩

end Sys2Proof.Machine

namespace Sys2Proof.Claims

open Sys2Proof.Machine

/-- Settles O8: one step of SP in each mode, its frame, and R29's order of push and pull, which is
how the model defines them. -/
theorem stackPointerSteps : Obligations.StackPointerSteps := by
  intro v slot s
  obtain ⟨hdec, hinc⟩ := s.stepSp_frame
  have hpush : s.push slot v = (s.write slot s.sp v).decSp := rfl
  have hpull : s.pulled slot = s.incSp.read slot s.incSp.sp := rfl
  exact ⟨State.stepSp_byteMode, State.stepSp_wordMode, hdec, hinc, hpush, hpull⟩

end Sys2Proof.Claims
end

section
/-! PROOFS. What another bus master's writes do to the bytes an instruction reads and leaves in RAM, by
the place of their slot in the order of the cycles (R66, R73, D10). -/

namespace Sys2Proof.Machine

/-- A write of another master precedes a cycle by the order of the slots alone, where the address is its
own. -/
@[simp] theorem DmaWrite.hits_self (before slot : BusSlot) (a : Word) (v : Byte) :
    (DmaWrite.mk before a v).hits slot a = decide (slotRank before ≤ slotRank slot) := by
  simp [DmaWrite.hits]

theorem DmaWrite.hits_of_ne {w : DmaWrite} {a : Word} (h : w.address ≠ a) (slot : BusSlot) :
    w.hits slot a = false := by
  simp [DmaWrite.hits, h]

theorem slotRank_le_vectorHi (slot : BusSlot) : slotRank slot ≤ slotRank .vectorHi := by
  cases slot <;> decide

/-- `vectorHi` is the last slot: every other master's write precedes it. -/
theorem DmaWrite.hits_vectorHi (w : DmaWrite) (a : Word) :
    w.hits .vectorHi a = (w.address == a) := by
  simp [DmaWrite.hits, slotRank_le_vectorHi]

theorem State.read_of_ram {s : State} {a : Word} (hram : s.answer a = .ram) (slot : BusSlot) :
    s.read slot a = dmaByte slot a s.dma (Memory.read s.mem a.toNat) := by
  simp only [State.read, hram]

/-- A byte of RAM after a write by any master to any address. -/
theorem State.read_memAfter {s : State} {a : Word} (hram : s.answer a = .ram)
    (hwf : s.mem.wf = true) (b : Word) (v : Byte) :
    Memory.read (s.memAfter b v) a.toNat = if b = a then v else Memory.read s.mem a.toNat := by
  split
  case isTrue hb =>
    subst hb
    simp only [State.memAfter, hram]
    exact Memory.read_write_same v s.mem hwf
  case isFalse hb =>
    have hn : a.toNat ≠ b.toNat := fun e => hb (BitVec.eq_of_toNat_eq e).symm
    unfold State.memAfter
    split
    · exact Memory.read_write_other hn v s.mem
    all_goals rfl

/-- The writes of other masters landed one by one leave in RAM the byte the last cycle would read. -/
theorem read_foldl_poke {a : Word} (ws : List DmaWrite) (s : State) (hram : s.answer a = .ram)
    (hwf : s.mem.wf = true) :
    Memory.read (ws.foldl (fun t w => t.poke w.address w.value) s).mem a.toNat =
      dmaByte .vectorHi a ws (Memory.read s.mem a.toNat) := by
  induction ws generalizing s with
  | nil => rfl
  | cons w ws ih =>
    have hpoke := State.read_memAfter hram hwf w.address w.value
    rw [List.foldl_cons, ih (s.poke w.address w.value) hram (State.wf_memAfter _ _ hwf),
      State.poke_mem, hpoke, dmaByte, DmaWrite.hits_vectorHi]
    simp only [beq_iff_eq]

/-- What RAM holds at the end of a step is what a read in its last slot would give. -/
theorem State.read_landDma {s : State} {a : Word} (hram : s.answer a = .ram)
    (hwf : s.mem.wf = true) : Memory.read s.landDma.mem a.toNat = s.read .vectorHi a := by
  rw [State.read_of_ram hram]
  exact read_foldl_poke s.dma s hram hwf

/-- At the end of an instruction that reads a byte of RAM and writes it back, memory holds the byte
written or what another master put there after the write cycle. -/
theorem State.read_landDma_putMem {s : State} {ea : Word} (hram : s.answer ea = .ram)
    (hwf : s.mem.wf = true) (v : Byte) (pc : Word) :
    Memory.read ((s.putMem ea v).setPc pc).landDma.mem ea.toNat =
      dmaByte .vectorHi ea (s.dmaAfter .writeLo ea) v := by
  have hram' : ((s.putMem ea v).setPc pc).answer ea = .ram := hram
  have hwf' : ((s.putMem ea v).setPc pc).mem.wf = true := State.wf_memAfter ea v hwf
  have hbyte : Memory.read ((s.putMem ea v).setPc pc).mem ea.toNat = v :=
    (State.read_memAfter hram hwf ea v).trans (if_pos rfl)
  rw [State.read_landDma hram' hwf', State.read_of_ram hram', hbyte]
  rfl

theorem exec_incAbs (w : Word) (s : State) :
    exec (.incAbs w) s = .next ((s.putMem w (s.dataAt w + 1)).setPc (s.pc + 3)) := rfl

theorem exec_jmpAbsInd (w : Word) (s : State) :
    exec (.jmpAbsInd w) s = .next { s with pc := s.pointer w (w + 1) } := rfl

/-- One write of another master at the address read: it is seen from its slot on. -/
theorem State.read_of_dma_single {s : State} {a : Word} {before : BusSlot} {v : Byte}
    (hram : s.answer a = .ram) (hdma : s.dma = [⟨before, a, v⟩]) (slot : BusSlot) :
    s.read slot a =
      if slotRank before ≤ slotRank slot then v else Memory.read s.mem a.toNat := by
  rw [State.read_of_ram hram, hdma]
  simp only [dmaByte, DmaWrite.hits_self, decide_eq_true_eq]

/-- One write of another master at the address written: it outlives a write cycle it comes after. -/
theorem State.dmaAfter_of_dma_single {s : State} {a : Word} {before : BusSlot} {v : Byte}
    (hdma : s.dma = [⟨before, a, v⟩]) (slot : BusSlot) :
    s.dmaAfter slot a = if slotRank before ≤ slotRank slot then [] else s.dma := by
  rw [State.dmaAfter, hdma]
  split
  case isTrue hbefore => simp [hbefore]
  case isFalse hafter => simp [hafter]

/-- Two writes of another master at the two bytes of a pointer: each is seen from its slot on. -/
theorem State.pointer_of_dma_pair {s : State} {a b : Word} {before : BusSlot} {lo hi : Byte}
    (ha : s.answer a = .ram) (hb : s.answer b = .ram) (hne : a ≠ b)
    (hdma : s.dma = [⟨before, a, lo⟩, ⟨before, b, hi⟩]) :
    s.pointer a b = wordOf
      (if slotRank before ≤ slotRank .pointerHi then hi else Memory.read s.mem b.toNat)
      (if slotRank before ≤ slotRank .pointerLo then lo else Memory.read s.mem a.toNat) := by
  have hlo (slot : BusSlot) : (DmaWrite.mk before a lo).hits slot b = false :=
    DmaWrite.hits_of_ne hne slot
  have hhi (slot : BusSlot) : (DmaWrite.mk before b hi).hits slot a = false :=
    DmaWrite.hits_of_ne hne.symm slot
  rw [State.pointer, State.read_of_ram ha, State.read_of_ram hb, hdma]
  simp only [dmaByte, hlo, hhi, DmaWrite.hits_self, decide_eq_true_eq, Bool.false_eq_true, if_false]

end Sys2Proof.Machine

namespace Sys2Proof.Claims

open Sys2Proof.Machine

theorem wordOf_eq_word (hi lo : Byte) : wordOf hi lo = word hi lo := by
  apply BitVec.eq_of_toNat_eq
  have := (wordOf hi lo).isLt
  rw [wordOf_toNat] at this ⊢
  rw [word, BitVec.toNat_ofNat, Nat.mod_eq_of_lt this]

/-- INC ABS of a byte another master writes once during it, R66, R73: before the read, between the read
and the write, or after the write. -/
theorem byteAt_landDma_incAbs {slot : BusSlot} {w : Word} {v : Byte} {s t : State}
    (hwf : s.mem.wf = true) (hram : s.answer w = .ram) (hdma : s.dma = [⟨slot, w, v⟩])
    (hexec : exec (.incAbs w) s = .next t) :
    byteAt t.landDma w =
      if slotRank slot ≤ slotRank .dataLo then v + 1
      else if slotRank slot ≤ slotRank .writeLo then byteAt s w + 1
      else v := by
  rw [exec_incAbs] at hexec
  cases hexec
  have horder : slotRank .dataLo ≤ slotRank .writeLo := by decide
  rw [byteAt, State.read_landDma_putMem hram hwf, State.dmaAfter_of_dma_single hdma, State.dataAt,
    State.read_of_dma_single hram hdma]
  by_cases hread : slotRank slot ≤ slotRank .dataLo
  · rw [if_pos hread, if_pos (hread.trans horder), if_pos hread, dmaByte]
  · rw [if_neg hread, if_neg hread]
    by_cases hwrite : slotRank slot ≤ slotRank .writeLo
    · rw [if_pos hwrite, if_pos hwrite, dmaByte, byteAt]
    · rw [if_neg hwrite, if_neg hwrite, hdma]
      simp [dmaByte, slotRank_le_vectorHi]

/-- Settles O58: INC ABS by where the one write stands to its read and its write cycle; JMP (ABS) by
which of its two pointer reads the two writes precede. -/
theorem otherMastersActBetweenBusCycles : Obligations.OtherMastersActBetweenBusCycles := by
  intro slot w v old new s t hwf hlo hhi
  refine ⟨?_, fun hdma => ?_⟩
  · rintro hdma rfl hexec
    exact byteAt_landDma_incAbs hwf hlo hdma hexec
  have hne : w ≠ w + 1 := by bv_omega
  have horder : slotRank .pointerLo < slotRank .pointerHi := by decide
  rw [exec_jmpAbsInd, State.pointer_of_dma_pair hlo hhi hne hdma]
  constructor
  · intro hbefore
    rw [if_pos (hbefore.trans horder.le), if_pos hbefore, wordOf_eq_word]
  · rintro rfl rfl
    rw [if_pos le_rfl, if_neg horder.not_ge, wordOf_eq_word, byteAt]

end Sys2Proof.Claims
end

section
/-! PROOFS. The branches of R150: the word the model adds to pc is the signed offset, so every form ends
at the address its statement gives. -/

namespace Sys2Proof.Claims

open Sys2Proof.Machine

/-- R92: pc moved past the instruction by the model's word addition. -/
theorem pc_add_eq_pcAfter (s : State) (len : Nat) :
    s.pc + BitVec.ofNat 16 len = pcAfter s len := by
  rw [pcAfter, BitVec.ofNat_add, BitVec.ofNat_toNat, BitVec.setWidth_eq]

/-- A signed distance from `len` bytes past pc0, modulo 65,536 (D13). -/
theorem ofInt_pc_add (s : State) (len : Nat) (offset : Int) :
    BitVec.ofInt 16 (s.pc.toNat + len + offset) =
      s.pc + BitVec.ofNat 16 len + BitVec.ofInt 16 offset := by
  rw [pc_add_eq_pcAfter, BitVec.ofInt_add, ← Int.natCast_add, BitVec.ofInt_natCast, pcAfter]

theorem targetRel_eq_ofInt (r : Byte) (s : State) :
    targetRel r s = BitVec.ofInt 16 (s.pc.toNat + 2 + r.toInt) :=
  (ofInt_pc_add s 2 r.toInt).symm

theorem targetWrel_eq_ofInt (w : Word) (s : State) :
    targetWrel w s = BitVec.ofInt 16 (s.pc.toNat + 2 + w.toInt) := by
  have htarget := ofInt_pc_add s 2 w.toInt
  rw [BitVec.ofInt_toInt] at htarget
  exact htarget.symm

theorem branch_targetRel (s : State) (r : Byte) (taken : Bool) :
    branch s 2 taken (targetRel r s) = .next (branchRel s r taken) := by
  rw [branch_eq, targetRel_eq_ofInt, branchRel, ← pc_add_eq_pcAfter]
  rfl

theorem branch_targetWrel (s : State) (w : Word) (taken : Bool) :
    branch s 3 taken (targetWrel w s) = .next (branchWord s w taken) := by
  rw [branch_eq, targetWrel_eq_ofInt, branchWord, ← pc_add_eq_pcAfter]
  rfl

/-- Length and cycles are the matrix's for the opcode, R95. -/
theorem completes_of_opcode {i : Instr} {op : Byte} {len cyc : Nat} {s t : State}
    (hop : i.opcode = op) (hlen : opcodeLength op = len) (hcyc : opcodeCycles op = cyc)
    (hexec : exec i s = .next t) : Completes i op len cyc s t := by
  subst hop
  exact ⟨rfl, hlen, hcyc, hexec⟩

section
variable {s : State} {i : Instr} {taken : Bool} (op : Byte) (hop : i.opcode = op)
include hop

/-- An instruction whose meaning is the template of R150 in its two-byte form. -/
theorem completes_branchRel {r : Byte} (hlen : opcodeLength op = 2) (hcyc : opcodeCycles op = 2)
    (hexec : exec i s = branch s 2 taken (targetRel r s)) :
    Completes i op 2 2 s (branchRel s r taken) :=
  completes_of_opcode hop hlen hcyc (hexec.trans (branch_targetRel s r taken))

/-- An instruction whose meaning is the template of R150 in its three-byte form. -/
theorem completes_branchWord {w : Word} (hlen : opcodeLength op = 3) (hcyc : opcodeCycles op = 3)
    (hexec : exec i s = branch s 3 taken (targetWrel w s)) :
    Completes i op 3 3 s (branchWord s w taken) :=
  completes_of_opcode hop hlen hcyc (hexec.trans (branch_targetWrel s w taken))

end

/-- Settles O34: each of the nine branches is the template of R150 in its byte and its word form, on the
condition its rule R151 to R159 names. -/
theorem branchesTestOneFlag : Obligations.BranchesTestOneFlag := by
  intro r w s
  exact ⟨
    completes_branchRel 0x90 rfl rfl rfl rfl, completes_branchWord 0x93 rfl rfl rfl rfl,
    completes_branchRel 0xB0 rfl rfl rfl rfl, completes_branchWord 0xB3 rfl rfl rfl rfl,
    completes_branchRel 0xF0 rfl rfl rfl rfl, completes_branchWord 0xF3 rfl rfl rfl rfl,
    completes_branchRel 0x30 rfl rfl rfl rfl, completes_branchWord 0x33 rfl rfl rfl rfl,
    completes_branchRel 0xD0 rfl rfl rfl rfl, completes_branchWord 0xD3 rfl rfl rfl rfl,
    completes_branchRel 0x10 rfl rfl rfl rfl, completes_branchWord 0x13 rfl rfl rfl rfl,
    completes_branchRel 0x50 rfl rfl rfl rfl, completes_branchWord 0x53 rfl rfl rfl rfl,
    completes_branchRel 0x70 rfl rfl rfl rfl, completes_branchWord 0x73 rfl rfl rfl rfl,
    completes_branchRel 0x80 rfl rfl rfl rfl, completes_branchWord 0x83 rfl rfl rfl rfl⟩

end Sys2Proof.Claims
end

section
/-! PROOFS. The single pushes of R259 to R263: one write cycle in the terms the statements are written in,
then SP one step down. -/

namespace Sys2Proof.Machine

theorem DmaWrite.not_hits (w : DmaWrite) (slot : BusSlot) (a : Word) :
    (!w.hits slot a) = (w.address != a || decide (slotRank slot < slotRank w.before)) := by
  rw [DmaWrite.hits, Bool.not_and, ← decide_not, bne]
  simp only [Nat.not_le]

end Sys2Proof.Machine

namespace Sys2Proof.Claims

open Sys2Proof.Machine

theorem dmaAfter_eq_filter_outlives (s : State) (slot : BusSlot) (a : Word) (v : Byte) :
    s.dmaAfter slot a = s.dma.filter (outlives [(slot, a, v)]) := by
  refine List.filter_congr fun w _ => ?_
  simp only [DmaWrite.not_hits, outlives, List.all_cons, List.all_nil, Bool.and_true]

theorem byteAt_write_other {a b : Word} (hne : a ≠ b) (s : State) (slot : BusSlot) (v : Byte) :
    byteAt (s.write slot a v) b = byteAt s b := by
  have hn : b.toNat ≠ a.toNat := fun h => hne (BitVec.eq_of_toNat_eq h.symm)
  rw [byteAt, State.write_mem]
  by_cases hram : s.answer a = .ram
  · simp only [State.memAfter, hram]
    exact Memory.read_write_other hn v s.mem
  · rw [State.memAfter_not_ram hram, byteAt]

theorem byteAt_write_same {s : State} (hwf : s.mem.wf = true) (slot : BusSlot) (a : Word)
    (v : Byte) :
    byteAt (s.write slot a v) a = if s.answer a = .ram then v else byteAt s a := by
  split
  case isTrue hram => exact (State.read_memAfter hram hwf a v).trans (if_pos rfl)
  case isFalse hother => rw [byteAt, State.write_mem, State.memAfter_not_ram hother, byteAt]

/-- One write cycle, R63, is one stored byte. -/
theorem wrote_write {s : State} (hwf : s.mem.wf = true) (slot : BusSlot) (a : Word) (v : Byte) :
    Wrote s (s.write slot a v) [(slot, a, v)] := by
  refine ⟨?_, fun b hne => ?_, fun c hc => ?_⟩
  · rw [← dmaAfter_eq_filter_outlives]
    rfl
  · exact byteAt_write_other (hne _ List.mem_cons_self) s slot v
  · cases List.mem_singleton.mp hc
    exact byteAt_write_same hwf slot a v

/-- R28: the model's step of SP is the subtraction modulo 256 in the page (R27) or modulo 65,536. -/
theorem spDown_eq_below (s : State) (n : Byte) : spDown s.p.e s.sp n = below s n.toNat := by
  have hn := n.isLt
  apply BitVec.eq_of_toNat_eq
  cases he : s.p.e with
  | false =>
    simp only [spDown_wordMode, below, he, Bool.false_eq_true, if_false, BitVec.toNat_ofNat]
    omega
  | true =>
    have hpage := congrArg BitVec.toNat (spDown_page s.sp n)
    have hspl := spDown_byteMode_loByte s.sp n
    rw [hiByte_toNat, hiByte_toNat] at hpage
    rw [loByte_toNat, loByte_toNat] at hspl
    simp only [below, he, if_true, BitVec.toNat_ofNat]
    omega

/-- A one-byte instruction that pushes once. -/
theorem retire_push (s : State) (slot : BusSlot) (v : Byte) :
    retire s 1 (s.push slot v) =
      .next { s.write slot s.sp v with sp := below s 1, pc := pcAfter s 1 } := by
  have hsp : spDown s.p.e s.sp 1 = below s 1 := spDown_eq_below s 1
  have hpc : s.pc + 1 = pcAfter s 1 := pc_add_eq_pcAfter s 1
  rw [retire_eq, State.push_eq, hsp, hpc]

/-- An instruction whose meaning is one push of the byte `v`. -/
theorem completesStoring_push {i : Instr} {s : State} {v : Byte} (hwf : s.mem.wf = true)
    (op : Byte) (hop : i.opcode = op) (hlen : opcodeLength op = 1) (hcyc : opcodeCycles op = 3)
    (hexec : exec i s = retire s 1 (s.push .push1 v)) :
    CompletesStoring i op 1 3 s [(.push1, s.sp, v)] fun u =>
      { u with sp := below s 1, pc := pcAfter s 1 } :=
  ⟨s.write .push1 s.sp v, wrote_write hwf .push1 s.sp v,
    completes_of_opcode hop hlen hcyc (hexec.trans (retire_push s .push1 v))⟩

/-- Settles O38: PHA, PHX, PHY and PHZ are one push each, of the register their rule names. -/
theorem pushesStoreTheRegister : Obligations.PushesStoreTheRegister := by
  intro s hwf
  exact ⟨completesStoring_push hwf 0x48 rfl rfl rfl rfl,
    completesStoring_push hwf 0xDA rfl rfl rfl rfl,
    completesStoring_push hwf 0x5A rfl rfl rfl rfl,
    completesStoring_push hwf 0xDB rfl rfl rfl rfl⟩

end Sys2Proof.Claims
end

section
/-! PROOFS. The flag instructions, NOP and AUG of R311 to R321: each writes at most the flags and moves pc
past itself; one machine cycle is what makes it hold interrupts back (R343, R344). -/

namespace Sys2Proof.Machine

/-- R343: after a single-cycle opcode the latch, the pin and I do not matter. -/
theorem State.pendingInterrupt_of_lastSingle {s : State} (h : s.lastSingle = true) :
    s.pendingInterrupt = none := by
  rw [State.pendingInterrupt, if_pos h]

end Sys2Proof.Machine

namespace Sys2Proof.Claims

open Sys2Proof.Machine

theorem Completes.singleCycle_eq {i : Instr} {op : Byte} {len cyc : Nat} {s t : State}
    (h : Completes i op len cyc s t) : i.singleCycle = (cyc == 1) := by
  obtain ⟨_, _, hcyc, _⟩ := h
  rw [Instr.singleCycle, hcyc]

section
variable {s t : State} (i : Instr) (op : Byte) (len cyc : Nat) (hop : i.opcode = op)
  (hlen : opcodeLength op = len) (hcyc : opcodeCycles op = cyc)
include hop hlen hcyc

/-- R92: an instruction whose meaning retires `t` ends in `t` with pc past the instruction. -/
theorem completes_retire (hexec : exec i s = retire s (BitVec.ofNat 16 len) t) :
    Completes i op len cyc s { t with pc := pcAfter s len } := by
  rw [retire_eq, pc_add_eq_pcAfter] at hexec
  exact completes_of_opcode hop hlen hcyc hexec

theorem completes_setP (p : Flags)
    (hexec : exec i s = retire s (BitVec.ofNat 16 len) (s.setP p)) :
    Completes i op len cyc s { s with p := p, pc := pcAfter s len } :=
  completes_retire i op len cyc hop hlen hcyc hexec

end

/-- Settles O42: CLC and SEC retire one write of the flags, in which C alone differs (R311, R312). -/
theorem carryInstructionsWriteC : Obligations.CarryInstructionsWriteC := by
  intro s
  have hclc := completes_setP (s := s) .clc 0x18 1 1 rfl rfl rfl { s.p with c := false } rfl
  have hsec := completes_setP (s := s) .sec 0x38 1 1 rfl rfl rfl { s.p with c := true } rfl
  exact ⟨hclc, hsec, hclc.singleCycle_eq, hsec.singleCycle_eq⟩

/-- Settles O43: NOP retires the state it began in (R320), and its one cycle holds every interrupt back. -/
theorem nopChangesNothingButPc : Obligations.NopChangesNothingButPc := by
  intro s
  have hnop := completes_retire (s := s) .nop 0xEA 1 1 rfl rfl rfl rfl
  have hsingle : Instr.singleCycle .nop = true := hnop.singleCycle_eq
  exact ⟨hnop, hsingle, State.pendingInterrupt_of_lastSingle hsingle⟩

/-- Settles O44: each flag instruction retires one write of the flags, in which its flag alone differs
(R313 to R319); AUG retires the state it began in (R321). -/
theorem flagInstructionsWriteOneFlag : Obligations.FlagInstructionsWriteOneFlag := by
  intro b1 b2 b3 s
  have hcld := completes_setP (s := s) .cld 0xD8 1 1 rfl rfl rfl { s.p with d := false } rfl
  have hsed := completes_setP (s := s) .sed 0xF8 1 1 rfl rfl rfl { s.p with d := true } rfl
  have hclv := completes_setP (s := s) .clv 0xB8 1 1 rfl rfl rfl { s.p with v := false } rfl
  have hcle := completes_setP (s := s) .cle 0x02 1 2 rfl rfl rfl { s.p with e := false } rfl
  have hsee := completes_setP (s := s) .see 0x03 1 2 rfl rfl rfl { s.p with e := true } rfl
  have hcli := completes_setP (s := s) .cli 0x58 1 2 rfl rfl rfl { s.p with i := false } rfl
  have hsei := completes_setP (s := s) .sei 0x78 1 2 rfl rfl rfl { s.p with i := true } rfl
  have haug := completes_retire (s := s) (.aug b1 b2 b3) 0x5C 4 4 rfl rfl rfl rfl
  exact ⟨hcld, hsed, hclv, hcle, hsee, hcli, hsei, haug,
    hcld.singleCycle_eq, hsed.singleCycle_eq, hclv.singleCycle_eq, hcle.singleCycle_eq,
    hsee.singleCycle_eq, hcli.singleCycle_eq, hsei.singleCycle_eq⟩

end Sys2Proof.Claims
end

section
/-! PROOFS. The machine cycles of an opcode by the printed matrix (R95, R392): which cells are 1, the
opcodes no interrupt follows (R344), and how long the others take. -/

namespace Sys2Proof

/-- R344: accumulator shifts and steps; register steps; transfers; flag instructions; NOP. -/
def oneCycleOpcodes : List Byte :=
  [0x0A, 0x2A, 0x4A, 0x6A, 0x1A, 0x3A] ++
  [0xE8, 0xC8, 0x1B, 0xCA, 0x88, 0x3B] ++
  [0xAA, 0xA8, 0x4B, 0x8A, 0x98, 0x6B, 0x5B, 0x7B, 0xBA, 0x9A, 0x0B, 0x2B] ++
  [0x18, 0x38, 0xD8, 0xF8, 0xB8] ++ [0xEA]

/-- A table of sixteen rows of sixteen has a cell for every opcode, so what holds of each cell holds
of the one read. -/
theorem matrixCell_of_forall_cell {P : Nat → Prop} {t : List (List Nat)} (hrows : t.length = 16)
    (hcols : ∀ row ∈ t, row.length = 16) (hcell : ∀ row ∈ t, ∀ n ∈ row, P n) (op : Byte) :
    P (matrixCell t op) := by
  have hhi : op.toNat / 16 < t.length := by omega
  have hrow : t[op.toNat / 16] ∈ t := List.getElem_mem hhi
  have hlo : op.toNat % 16 < t[op.toNat / 16].length := by rw [hcols _ hrow]; omega
  have hread : matrixCell t op = t[op.toNat / 16][op.toNat % 16] := by
    rw [matrixCell, List.getD_eq_getElem t [] hhi, List.getD_eq_getElem _ 0 hlo]
  rw [hread]
  exact hcell _ hrow _ (List.getElem_mem hlo)

theorem opcodeCycles_bounds (op : Byte) : 1 ≤ opcodeCycles op ∧ opcodeCycles op ≤ 7 :=
  matrixCell_of_forall_cell (P := fun n => 1 ≤ n ∧ n ≤ 7) (by decide) (by decide) (by decide) op

/-- R344 gives its opcodes twice, as a list and as the cells printed 1 (CLI's is 2 by C5): over the 256
cells the two agree. -/
theorem opcodeCycles_eq_one_iff : ∀ op : Byte, opcodeCycles op = 1 ↔ op ∈ oneCycleOpcodes := by
  decide

theorem Instr.singleCycle_iff_cycles (i : Instr) : i.singleCycle = true ↔ i.cycles = 1 :=
  beq_iff_eq

theorem Instr.singleCycle_iff_opcode (i : Instr) :
    i.singleCycle = true ↔ i.opcode ∈ oneCycleOpcodes :=
  i.singleCycle_iff_cycles.trans (opcodeCycles_eq_one_iff i.opcode)

theorem Instr.cycles_of_not_singleCycle {i : Instr} (h : i.singleCycle = false) :
    2 ≤ i.cycles ∧ i.cycles ≤ 7 := by
  obtain ⟨hpos, hmax⟩ : 1 ≤ i.cycles ∧ i.cycles ≤ 7 := opcodeCycles_bounds i.opcode
  have hne : i.cycles ≠ 1 := mt i.singleCycle_iff_cycles.mpr (Bool.eq_false_iff.mp h)
  omega

end Sys2Proof

namespace Sys2Proof.Claims

/-- Settles O4: an instruction's cycles are its opcode's cell of the matrix, where the cells that are 1
are R344's thirty and no cell is below 1 or above 7; CLI's cell is 2 by C5. -/
theorem singleCycleOpcodes : Obligations.SingleCycleOpcodes := by
  intro i
  have hcli : Instr.singleCycle .cli = false := rfl
  have hneg : Instr.cycles .neg = 2 := rfl
  have hasr : Instr.cycles .asrA = 2 := rfl
  exact ⟨i.singleCycle_iff_opcode, i.singleCycle_iff_cycles.mp, Instr.cycles_of_not_singleCycle,
    hcli, hneg, hasr⟩

end Sys2Proof.Claims
end
section
/-! PROOFS. Decoding and encoding undo each other: by the format of an instruction one way (R91), by the
cell of the matrix the other (R95, R98). -/

namespace Sys2Proof

/-- A 16-bit operand put together again from the two bytes it was encoded in. -/
theorem eq_of_wordOf_hi_lo {f : Word → Instr} {w : Word} {i : Instr}
    (h : i = f (wordOf (hiByte w) (loByte w))) : i = f w := by
  rwa [wordOf_hi_lo] at h

/-- The opcode and the operand bytes of an instruction: as many as the matrix says, and what the opcode's
cell decodes them to, whatever bytes follow. -/
structure EncodedAs (i : Instr) (op : Byte) (operands : List Byte) : Prop where
  encode_eq : encode i = op :: operands
  length_eq : opcodeLength op = operands.length + 1
  decode_eq : ∀ rest : List Byte, decodeOpcode op ((operands ++ rest).getD 0 0)
    ((operands ++ rest).getD 1 0) ((operands ++ rest).getD 2 0) = i

/-- Byte operands come back as they were written, a 16-bit operand from its two bytes (R91, R94). -/
theorem exists_encodedAs (i : Instr) : ∃ op operands, EncodedAs i op operands := by
  cases i with
  | tsbAbs w | oraAbs w | aslAbs w | bplWrel w | oraAbsY w | trbAbs w | oraAbsX w | aslAbsX w
  | jsrAbs w | jsrAbsInd w | jsrAbsXInd w | bitAbs w | andAbs w | rolAbs w | bmiWrel w | andAbsY w
  | bitAbsX w | andAbsX w | rolAbsX w | jmpAbs w | eorAbs w | lsrAbs w | bvcWrel w | eorAbsY w
  | eorAbsX w | lsrAbsX w | bsr w | jmpAbsInd w | adcAbs w | rorAbs w | bvsWrel w | adcAbsY w
  | jmpAbsXInd w | adcAbsX w | rorAbsX w | bruWrel w | styAbsX w | styAbs w | staAbs w | stxAbs w
  | bccWrel w | staAbsY w | stxAbsY w | stzAbs w | staAbsX w | stzAbsX w | ldzAbs w | ldyAbs w
  | ldaAbs w | ldxAbs w | bcsWrel w | ldaAbsY w | ldzAbsX w | ldyAbsX w | ldaAbsX w | ldxAbsY w
  | asw w | cpyAbs w | cmpAbs w | decAbs w | bneWrel w | cmpAbsY w | cpzAbs w | cmpAbsX w
  | decAbsX w | row w | cpxAbs w | sbcAbs w | incAbs w | beqWrel w | phwImmW w | sbcAbsY w
  | phwAbs w | sbcAbsX w | incAbsX w =>
    exact ⟨_, _, rfl, rfl, fun _ => eq_of_wordOf_hi_lo rfl⟩
  | _ => exact ⟨_, _, rfl, rfl, fun _ => rfl⟩

theorem EncodedAs.opcode_eq {i : Instr} {op : Byte} {operands : List Byte}
    (h : EncodedAs i op operands) : i.opcode = op := by
  rw [Instr.opcode, h.encode_eq, List.headD_cons]

theorem decode_encode_append (i : Instr) (rest : List Byte) :
    decode (encode i ++ rest) = .ok (i, rest) := by
  obtain ⟨op, operands, h⟩ := exists_encodedAs i
  have henough : opcodeLength op ≤ (operands ++ rest).length + 1 := by
    rw [h.length_eq, List.length_append]
    omega
  rw [h.encode_eq, List.cons_append, decode_eq_ok henough, h.decode_eq, h.length_eq,
    Nat.add_sub_cancel, List.drop_left]

theorem length_encode (i : Instr) : (encode i).length = i.length := by
  obtain ⟨op, operands, h⟩ := exists_encodedAs i
  rw [Instr.length, h.opcode_eq, h.length_eq, h.encode_eq, List.length_cons]

theorem opcodeLength_bounds (op : Byte) : 1 ≤ opcodeLength op ∧ opcodeLength op ≤ 4 :=
  matrixCell_of_forall_cell (P := fun n => 1 ≤ n ∧ n ≤ 4) (by decide) (by decide) (by decide) op

/-- The two bytes of a 16-bit operand, encoded again. -/
theorem encode_eq_of_wordOf {i : Instr} {op b1 b2 : Byte}
    (h : encode i = [op, loByte (wordOf b2 b1), hiByte (wordOf b2 b1)]) :
    encode i = [op, b1, b2] := by
  rwa [loByte_wordOf, hiByte_wordOf] at h

/-- Each of the 256 cells of the matrix (R95): the instruction decoded there has the cell's opcode, and
its operands are the bytes it was decoded from. -/
theorem encode_decodeOpcode (op b1 b2 b3 : Byte) :
    encode (decodeOpcode op b1 b2 b3) = op :: [b1, b2, b3].take (opcodeLength op - 1) := by
  obtain ⟨n, hn, rfl⟩ : ∃ n < 256, op = BitVec.ofNat 8 n := ⟨op.toNat, op.isLt, by simp⟩
  interval_cases n <;> first | rfl | exact encode_eq_of_wordOf rfl

theorem decode_four_bytes (op b1 b2 b3 : Byte) (more : List Byte) :
    decode (op :: b1 :: b2 :: b3 :: more) =
      .ok (decodeOpcode op b1 b2 b3, (b1 :: b2 :: b3 :: more).drop (opcodeLength op - 1)) := by
  have hlen := opcodeLength_bounds op
  have henough : opcodeLength op ≤ (b1 :: b2 :: b3 :: more).length + 1 := by
    simp only [List.length_cons]
    omega
  rw [decode_eq_ok henough]
  rfl

end Sys2Proof

namespace Sys2Proof.Claims

/-- Settles O1: by the format of the instruction, whose operand bytes its opcode's cell reads back. -/
theorem decodeOfEncode : Obligations.DecodeOfEncode := by
  intro i rest _
  exact ⟨decode_encode_append i rest, length_encode i⟩

/-- Settles O2: four bytes are enough for every opcode, and the cell of each writes back the bytes it
read. -/
theorem encodeOfDecode : Obligations.EncodeOfDecode := by
  rintro (_ | ⟨op, _ | ⟨b1, _ | ⟨b2, _ | ⟨b3, more⟩⟩⟩⟩) hfour
  case cons.cons.cons.cons =>
    refine ⟨_, _, decode_four_bytes op b1 b2 b3 more, ?_⟩
    have hshort : opcodeLength op - 1 ≤ [b1, b2, b3].length := by
      have hlen := opcodeLength_bounds op
      simp only [List.length_cons, List.length_nil]
      omega
    have htake := List.take_append_of_le_length (l₂ := more) hshort
    rw [encode_decodeOpcode, ← htake, List.cons_append]
    exact congrArg (op :: ·) (List.take_append_drop _ _)
  all_goals simp at hfour

/-- Settles O3: the eleven words evaluated by the decoder; they are fixed numbers. -/
theorem sampleWordsDecode : Obligations.SampleWordsDecode := by
  unfold Obligations.SampleWordsDecode
  decide

end Sys2Proof.Claims
end
section
/-! PROOFS. The model's words, flags and stack addresses in the numbers the statements are written in, and
the shape every straight-line instruction has: its opcode's row of the matrix and one retired state. -/

namespace Sys2Proof.Claims

open Sys2Proof.Machine

/-! ## Bytes, words and flags -/

theorem byte_beq_zero (v : Byte) : (v == 0) = decide (v.toNat = 0) := by
  rw [Bool.eq_iff_iff, beq_iff_eq, decide_eq_true_iff, BitVec.toNat_eq]
  rfl

theorem nz_eq (p : Flags) (v : Byte) : p.nz v = nz p v := by
  rw [Flags.nz, nz, BitVec.msb_eq_decide, byte_beq_zero]

theorem nz16_eq (p : Flags) (w : Word) : p.nz16 w = nz16 p w := by
  have hzero : (w == 0) = decide (w.toNat = 0) := by
    rw [Bool.eq_iff_iff, beq_iff_eq, decide_eq_true_iff, BitVec.toNat_eq]
    rfl
  rw [Flags.nz16, nz16, BitVec.msb_eq_decide, hzero]

theorem hiByte_eq_high (w : Word) : hiByte w = high w := by
  apply BitVec.eq_of_toNat_eq
  rw [hiByte_toNat, high, BitVec.toNat_ofNat]
  omega

theorem loByte_eq_low (w : Word) : loByte w = low w := by
  apply BitVec.eq_of_toNat_eq
  rw [loByte_toNat, low, BitVec.toNat_ofNat]
  omega

theorem getLsbD_eq_bit (v : Byte) (k : Nat) : v.getLsbD k = bit v k := by
  rw [BitVec.getLsbD, Nat.testBit_eq_decide_div_mod_eq, bit]

theorem load_eq_loadP (p : Flags) (writesE : Bool) (v : Byte) :
    p.load writesE v = loadP p writesE v := by
  simp only [Flags.load, loadP, getLsbD_eq_bit]

theorem image_eq (p : Flags) (b : Bool) : p.image b = image p b := by
  obtain ⟨n, v, e, d, i, zf, c⟩ := p
  revert n v e d i zf c b
  decide

/-! ## The stack pointer, R27, R28 -/

theorem below_toNat (s : State) (k : Nat) : (below s k).toNat =
    if s.p.e then s.sp.toNat / 256 * 256 + (s.sp.toNat % 256 + 256 - k) % 256
    else (s.sp.toNat + 65536 - k) % 65536 := by
  rw [below]
  split <;> rw [BitVec.toNat_ofNat]
  omega

theorem upFrom_toNat (e : Bool) (sp : Word) (k : Nat) : (upFrom e sp k).toNat =
    if e then sp.toNat / 256 * 256 + (sp.toNat % 256 + k) % 256 else (sp.toNat + k) % 65536 := by
  rw [upFrom]
  split <;> rw [BitVec.toNat_ofNat]
  omega

theorem below_zero (s : State) : below s 0 = s.sp := by
  apply BitVec.eq_of_toNat_eq
  rw [below_toNat]
  split <;> omega

/-- Fewer than 256 pushes go to different addresses, in byte mode too. -/
theorem below_ne {s : State} {j k : Nat} (hjk : j < k) (hk : k < 256) : below s j ≠ below s k := by
  intro h
  have hnat := congrArg BitVec.toNat h
  rw [below_toNat, below_toNat] at hnat
  split at hnat <;> omega

/-- One push after `k` others. -/
theorem spDown_below {s : State} {k : Nat} (hk : k < 256) :
    spDown s.p.e (below s k) 1 = below s (k + 1) := by
  apply BitVec.eq_of_toNat_eq
  have hstep := congrArg BitVec.toNat (spDown_eq_below { s with sp := below s k } 1)
  have hone : (1 : Byte).toNat = 1 := rfl
  rw [below_toNat] at hstep
  simp only [hone, below_toNat s k] at hstep
  rw [hstep, below_toNat]
  split <;> omega

theorem spUp_eq_upFrom (e : Bool) (sp : Word) (n : Byte) : spUp e sp n = upFrom e sp n.toNat := by
  apply BitVec.eq_of_toNat_eq
  rw [upFrom_toNat]
  cases e with
  | false => exact spUp_wordMode sp n
  | true =>
    have hpage := congrArg BitVec.toNat (spUp_page sp n)
    have hspl := spUp_byteMode_loByte sp n
    rw [hiByte_toNat, hiByte_toNat] at hpage
    rw [loByte_toNat, loByte_toNat] at hspl
    simp only [if_true]
    omega

theorem upFrom_upFrom (e : Bool) (sp : Word) (j k : Nat) :
    upFrom e (upFrom e sp j) k = upFrom e sp (j + k) := by
  apply BitVec.eq_of_toNat_eq
  rw [upFrom_toNat, upFrom_toNat, upFrom_toNat]
  split <;> omega

/-! ## Instructions that end by retiring a state, R92 -/

/-- The instruction has this opcode with these bytes and cycles in the matrix, and from `s` it retires
`t`. -/
structure Retires (i : Instr) (op : Byte) (len cyc : Nat) (s t : State) : Prop where
  opcode_eq : i.opcode = op
  length_eq : opcodeLength op = len
  cycles_eq : opcodeCycles op = cyc
  exec_eq : exec i s = retire s (BitVec.ofNat 16 len) t

theorem Retires.completes {i : Instr} {op : Byte} {len cyc : Nat} {s t : State}
    (h : Retires i op len cyc s t) : Completes i op len cyc s { t with pc := pcAfter s len } :=
  completes_retire i op len cyc h.opcode_eq h.length_eq h.cycles_eq h.exec_eq

/-- An instruction whose retired state is given by another expression for it. -/
theorem Retires.completes_of_eq {i : Instr} {op : Byte} {len cyc : Nat} {s t u : State}
    (h : Retires i op len cyc s t) (heq : { t with pc := pcAfter s len } = u) :
    Completes i op len cyc s u :=
  heq ▸ h.completes

end Sys2Proof.Claims
end

section
/-! PROOFS. Bytes stored one after another, as the pushes and the data writes of an instruction are: in the
terms of the statements, whatever their number. -/

namespace Sys2Proof.Claims

open Sys2Proof.Machine

/-- The bytes stored in their order, each by its write cycle. -/
def storeAll (s : State) (cells : List StoredByte) : State :=
  cells.foldl (fun u c => u.write c.1 c.2.1 c.2.2) s

theorem storeAll_cons (s : State) (c : StoredByte) (cells : List StoredByte) :
    storeAll s (c :: cells) = storeAll (s.write c.1 c.2.1 c.2.2) cells := rfl

theorem filter_outlives_cons (c : StoredByte) (cells : List StoredByte) (ws : List DmaWrite) :
    (ws.filter (outlives [c])).filter (outlives cells) = ws.filter (outlives (c :: cells)) := by
  rw [List.filter_filter]
  refine List.filter_congr fun w _ => ?_
  simp only [outlives, List.all_cons, List.all_nil, Bool.and_true]
  exact Bool.and_comm _ _

/-- Stored bytes change memory, what is left of other masters' writes, and the bus record. -/
theorem storeAll_eq (s : State) (cells : List StoredByte) :
    storeAll s cells =
      { s with
        mem := (storeAll s cells).mem
        dma := s.dma.filter (outlives cells)
        bus := s.bus ++ cells.map cycleOf } := by
  induction cells generalizing s with
  | nil =>
    have hall : s.dma.filter (outlives []) = s.dma := List.filter_eq_self.mpr fun _ _ => rfl
    rw [hall, List.map_nil, List.append_nil]
    rfl
  | cons c cells ih =>
    have hdma : (s.write c.1 c.2.1 c.2.2).dma = s.dma.filter (outlives [c]) :=
      dmaAfter_eq_filter_outlives s c.1 c.2.1 c.2.2
    have hbus : (s.write c.1 c.2.1 c.2.2).bus ++ cells.map cycleOf =
        s.bus ++ (c :: cells).map cycleOf := by
      rw [State.write_bus, List.append_assoc]
      rfl
    rw [storeAll_cons, ih, hdma, filter_outlives_cons, hbus]
    rfl

theorem wf_storeAll {s : State} (hwf : s.mem.wf = true) (cells : List StoredByte) :
    (storeAll s cells).mem.wf = true := by
  induction cells generalizing s with
  | nil => exact hwf
  | cons c cells ih => exact ih (State.wf_write c.1 c.2.1 c.2.2 hwf)

theorem byteAt_storeAll_other {a : Word} {cells : List StoredByte} (h : ∀ c ∈ cells, c.2.1 ≠ a)
    (s : State) : byteAt (storeAll s cells) a = byteAt s a := by
  induction cells generalizing s with
  | nil => rfl
  | cons c cells ih =>
    rw [storeAll_cons, ih (fun c' hc' => h c' (List.mem_cons_of_mem c hc'))]
    exact byteAt_write_other (h c List.mem_cons_self) s c.1 c.2.2

/-- Bytes stored at different addresses are all held, where RAM answers. -/
theorem byteAt_storeAll_mem {s : State} {cells : List StoredByte} (hwf : s.mem.wf = true)
    (hdiff : cells.Pairwise fun c e => c.2.1 ≠ e.2.1) {c : StoredByte} (hc : c ∈ cells) :
    byteAt (storeAll s cells) c.2.1 = if s.answer c.2.1 = .ram then c.2.2 else byteAt s c.2.1 := by
  induction cells generalizing s with
  | nil => cases hc
  | cons e cells ih =>
    obtain ⟨hfirst, hrest⟩ := List.pairwise_cons.mp hdiff
    rw [storeAll_cons]
    rcases List.mem_cons.mp hc with rfl | hc
    · rw [byteAt_storeAll_other fun c' hc' => (hfirst c' hc').symm]
      exact byteAt_write_same hwf c.1 c.2.1 c.2.2
    · rw [ih (State.wf_write e.1 e.2.1 e.2.2 hwf) hrest hc, State.answer_write,
        byteAt_write_other (hfirst c hc)]

theorem wrote_storeAll {s : State} {cells : List StoredByte} (hwf : s.mem.wf = true)
    (hdiff : cells.Pairwise fun c e => c.2.1 ≠ e.2.1) : Wrote s (storeAll s cells) cells :=
  ⟨storeAll_eq s cells, fun _ ha => byteAt_storeAll_other ha s,
    fun _ hc => byteAt_storeAll_mem hwf hdiff hc⟩

/-- With no other master about, a read of RAM in any cycle gives the byte held. -/
theorem read_eq_byteAt {s : State} {a : Word} (hram : s.answer a = .ram) (hdma : s.dma = [])
    (slot : BusSlot) : s.read slot a = byteAt s a := by
  rw [State.read_of_ram hram, hdma]
  rfl

/-- A byte stored in RAM is read back in any later cycle, with no other master about. -/
theorem read_storeAll_mem {s : State} {cells : List StoredByte} (hwf : s.mem.wf = true)
    (hdma : s.dma = []) (hdiff : cells.Pairwise fun c e => c.2.1 ≠ e.2.1) {c : StoredByte}
    (hc : c ∈ cells) (hram : s.answer c.2.1 = .ram) (slot : BusSlot) :
    (storeAll s cells).read slot c.2.1 = c.2.2 := by
  have hstored := storeAll_eq s cells
  have hram' : (storeAll s cells).answer c.2.1 = .ram := by rw [hstored]; exact hram
  have hdma' : (storeAll s cells).dma = [] := by rw [hstored]; simp only [hdma, List.filter_nil]
  rw [read_eq_byteAt hram' hdma', byteAt_storeAll_mem hwf hdiff hc, if_pos hram]

/-! ## The pushes and data writes of the model as stored bytes -/

theorem writeWord_eq_storeAll (s : State) (lo hi w : Word) :
    s.writeWord lo hi w = storeAll s [(.writeLo, lo, low w), (.writeHi, hi, high w)] := by
  rw [← loByte_eq_low, ← hiByte_eq_high]
  rfl

theorem storeAll_append_one (s : State) (cells : List StoredByte) (c : StoredByte) :
    storeAll s (cells ++ [c]) = (storeAll s cells).write c.1 c.2.1 c.2.2 :=
  List.foldl_append

theorem storeAll_p (s : State) (cells : List StoredByte) : (storeAll s cells).p = s.p := by
  rw [storeAll_eq]

/-- One more push after `k` bytes have been pushed. -/
theorem push_after_storeAll {s : State} {k : Nat} (hk : k < 256) (cells : List StoredByte)
    (slot : BusSlot) (v : Byte) :
    ((storeAll s cells).setSp (below s k)).push slot v =
      (storeAll s (cells ++ [(slot, below s k, v)])).setSp (below s (k + 1)) := by
  rw [State.push_eq, storeAll_append_one, ← spDown_below hk, ← storeAll_p s cells]
  rfl

theorem push_eq_storeAll (s : State) (slot : BusSlot) (v : Byte) :
    s.push slot v = (storeAll s [(slot, s.sp, v)]).setSp (below s 1) := by
  have h := push_after_storeAll (s := s) (Nat.zero_lt_succ 255) [] slot v
  rw [below_zero] at h
  exact h

theorem push_push_eq_storeAll (s : State) (j k : BusSlot) (v w : Byte) :
    (s.push j v).push k w =
      (storeAll s [(j, s.sp, v), (k, below s 1, w)]).setSp (below s 2) := by
  rw [push_eq_storeAll s j v]
  exact push_after_storeAll (by decide) _ k w

theorem callPush_eq_storeAll (s : State) (ret : Word) :
    s.callPush ret =
      (storeAll s [(.push1, s.sp, high ret), (.push2, below s 1, low ret)]).setSp (below s 2) := by
  rw [← hiByte_eq_high, ← loByte_eq_low]
  exact push_push_eq_storeAll s .push1 .push2 (hiByte ret) (loByte ret)

theorem pushTrapFrame_eq_storeAll (s : State) (ret : Word) (b : Bool) :
    s.pushTrapFrame ret b = (storeAll s (trapCells s ret b)).setSp (below s 3) := by
  have htwo : (s.push .push1 (hiByte ret)).push .push2 (loByte ret) = s.callPush ret := rfl
  rw [State.pushTrapFrame, htwo, callPush_eq_storeAll, push_after_storeAll (by decide), image_eq]
  rfl

theorem sp_ne_below {s : State} {k : Nat} (hpos : 0 < k) (hk : k < 256) : s.sp ≠ below s k :=
  below_zero s ▸ below_ne hpos hk

theorem two_pushes_differ {s : State} (j k : BusSlot) (u v : Byte) :
    [(j, s.sp, u), (k, below s 1, v)].Pairwise fun c e : StoredByte => c.2.1 ≠ e.2.1 := by
  simp [sp_ne_below (s := s) (k := 1)]

theorem three_pushes_differ {s : State} (j k l : BusSlot) (u v w : Byte) :
    [(j, s.sp, u), (k, below s 1, v), (l, below s 2, w)].Pairwise
      fun c e : StoredByte => c.2.1 ≠ e.2.1 := by
  simp [sp_ne_below (s := s) (k := 1), sp_ne_below (s := s) (k := 2),
    below_ne (s := s) (j := 1) (k := 2)]

end Sys2Proof.Claims
end
section
/-! PROOFS. The arithmetic of ADC, SBC, the compares and the shifts as sums, differences and quotients of
numbers, and every form of the instructions that compute on a register (R191 to R219, R250 to R254). -/

namespace Sys2Proof.Claims

open Sys2Proof.Machine

/-! ## Loads and logic -/

section
variable {i : Instr} {op : Byte} {len cyc : Nat} {s : State} {v : Byte}

theorem Retires.putA (h : Retires i op len cyc s (s.putA v)) :
    Completes i op len cyc s { s with a := v, p := nz s.p v, pc := pcAfter s len } :=
  h.completes_of_eq (by rw [State.putA_eq, nz_eq])

theorem Retires.putX (h : Retires i op len cyc s (s.putX v)) :
    Completes i op len cyc s { s with x := v, p := nz s.p v, pc := pcAfter s len } :=
  h.completes_of_eq (by rw [State.putX_eq, nz_eq])

theorem Retires.putY (h : Retires i op len cyc s (s.putY v)) :
    Completes i op len cyc s { s with y := v, p := nz s.p v, pc := pcAfter s len } :=
  h.completes_of_eq (by rw [State.putY_eq, nz_eq])

theorem Retires.putZ (h : Retires i op len cyc s (s.putZ v)) :
    Completes i op len cyc s { s with z := v, p := nz s.p v, pc := pcAfter s len } :=
  h.completes_of_eq (by rw [State.putZ_eq, nz_eq])

theorem Retires.bitTest (h : Retires i op len cyc s (s.bitTest v)) :
    Completes i op len cyc s
      { s with
        p := { s.p with n := bit v 7, v := bit v 6, zf := decide ((s.a &&& v).toNat = 0) }
        pc := pcAfter s len } :=
  h.completes_of_eq (by rw [State.bitTest_eq, getLsbD_eq_bit, getLsbD_eq_bit, byte_beq_zero])

end

/-- Settles O21: each of the 23 forms retires one load of its operand byte. -/
theorem loadsPutTheOperandInTheRegister : Obligations.LoadsPutTheOperandInTheRegister := by
  intro d m w s
  unfold ldaForms ldxForms ldyForms ldzForms
  refine ⟨?lda, ?ldx, ?ldy, ?ldz⟩
  case lda =>
    refine ⟨?_, ?_, ?_, ?_, ?_, ?_, ?_, ?_, ?_, ?_⟩ <;>
      exact Retires.putA ⟨rfl, rfl, rfl, rfl⟩
  case ldx =>
    refine ⟨?_, ?_, ?_, ?_, ?_⟩ <;>
      exact Retires.putX ⟨rfl, rfl, rfl, rfl⟩
  case ldy =>
    refine ⟨?_, ?_, ?_, ?_, ?_⟩ <;>
      exact Retires.putY ⟨rfl, rfl, rfl, rfl⟩
  case ldz =>
    refine ⟨?_, ?_, ?_⟩ <;>
      exact Retires.putZ ⟨rfl, rfl, rfl, rfl⟩

/-- Settles O26: each of the 27 forms retires one load of A with the combined byte. -/
theorem logicCombinesIntoA : Obligations.LogicCombinesIntoA := by
  intro d m w s
  unfold andForms oraForms eorForms
  refine ⟨?and, ?ora, ?eor⟩
  case and =>
    refine ⟨?_, ?_, ?_, ?_, ?_, ?_, ?_, ?_, ?_⟩ <;>
      exact Retires.putA ⟨rfl, rfl, rfl, rfl⟩
  case ora =>
    refine ⟨?_, ?_, ?_, ?_, ?_, ?_, ?_, ?_, ?_⟩ <;>
      exact Retires.putA ⟨rfl, rfl, rfl, rfl⟩
  case eor =>
    refine ⟨?_, ?_, ?_, ?_, ?_, ?_, ?_, ?_, ?_⟩ <;>
      exact Retires.putA ⟨rfl, rfl, rfl, rfl⟩

/-- Settles O27: each form retires the bit test of its operand byte. -/
theorem bitTestsTheOperand : Obligations.BitTestsTheOperand := by
  intro d m w s
  unfold bitForms
  refine ⟨?_, ?_, ?_, ?_, ?_⟩ <;> exact Retires.bitTest ⟨rfl, rfl, rfl, rfl⟩

/-! ## Compares, R200 -/

theorem compare_eq_compared (s : State) (len : Nat) (r m : Byte) :
    { s.setP (s.p.compare r m) with pc := pcAfter s len } = compared s len r m := by
  have hsub : (r - m).toNat = (r.toNat + 256 - m.toNat) % 256 := by
    rw [BitVec.toNat_sub]
    omega
  have hzero : decide ((r.toNat + 256 - m.toNat) % 256 = 0) = decide (r.toNat = m.toNat) := by
    rw [decide_eq_decide]
    omega
  rw [Flags.compare_eq, BitVec.msb_eq_decide, byte_beq_zero, hsub, hzero]
  rfl

/-- Settles O28: each of the 18 forms retires one compare of its register. -/
theorem comparesSetCarryAndSign : Obligations.ComparesSetCarryAndSign := by
  intro d m w s
  have hcompare {i : Instr} {op : Byte} {len cyc : Nat} {r v : Byte}
      (h : Retires i op len cyc s (s.setP (s.p.compare r v))) :
      Completes i op len cyc s (compared s len r v) :=
    h.completes_of_eq (compare_eq_compared s len r v)
  unfold cmpForms cpxForms cpyForms cpzForms
  refine ⟨?cmp, ?cpx, ?cpy, ?cpz⟩
  case cmp =>
    refine ⟨?_, ?_, ?_, ?_, ?_, ?_, ?_, ?_, ?_⟩ <;>
      exact hcompare ⟨rfl, rfl, rfl, rfl⟩
  case cpx =>
    refine ⟨?_, ?_, ?_⟩ <;>
      exact hcompare ⟨rfl, rfl, rfl, rfl⟩
  case cpy =>
    refine ⟨?_, ?_, ?_⟩ <;>
      exact hcompare ⟨rfl, rfl, rfl, rfl⟩
  case cpz =>
    refine ⟨?_, ?_, ?_⟩ <;>
      exact hcompare ⟨rfl, rfl, rfl, rfl⟩

end Sys2Proof.Claims
end
section
/-! PROOFS. Addition and subtraction of R191 to R195 in binary, in decimal on valid digits, and on invalid
ones: each outcome once for the operation, then for the nine forms of ADC and the nine of SBC. -/

namespace Sys2Proof.Claims

open Sys2Proof.Machine

/-! ## The forms -/

theorem adcForms_of_retires {d m : Byte} {w : Word} {s : State}
    {form : Instr → Byte → Nat → Nat → Byte → Prop}
    (h : ∀ {i op len cyc v}, Retires i op len cyc s (s.adc v) → form i op len cyc v) :
    adcForms s d m w form := by
  unfold adcForms
  refine ⟨?_, ?_, ?_, ?_, ?_, ?_, ?_, ?_, ?_⟩ <;> exact h ⟨rfl, rfl, rfl, rfl⟩

theorem sbcForms_of_retires {d m : Byte} {w : Word} {s : State}
    {form : Instr → Byte → Nat → Nat → Byte → Prop}
    (h : ∀ {i op len cyc v}, Retires i op len cyc s (s.sbc v) → form i op len cyc v) :
    sbcForms s d m w form := by
  unfold sbcForms
  refine ⟨?_, ?_, ?_, ?_, ?_, ?_, ?_, ?_, ?_⟩ <;> exact h ⟨rfl, rfl, rfl, rfl⟩

/-! ## Binary, R191 -/

theorem byte_toInt (v : Byte) :
    v.toInt = if 128 ≤ v.toNat then (v.toNat : Int) - 256 else v.toNat := by
  rw [BitVec.toInt_eq_toNat_cond]
  split <;> split <;> omega

/-- The model's sign test for V says that the signed sum leaves -128 to 127. -/
theorem overflow_iff (a m : Byte) (c : Bool) :
    ((a.msb == m.msb) && ((BitVec.ofNat 8 (a.toNat + m.toNat + c.toNat)).msb != a.msb)) =
      decide (a.toInt + m.toInt + c.toNat < -128 ∨ 127 < a.toInt + m.toInt + c.toNat) := by
  have ha := a.isLt
  have hm := m.isLt
  have hc := c.toNat_le
  simp only [BitVec.msb_eq_decide, BitVec.toNat_ofNat, byte_toInt]
  rw [Bool.eq_iff_iff]
  simp only [Bool.and_eq_true, beq_iff_eq, bne_iff_ne, ne_eq, decide_eq_decide, decide_eq_true_eq]
  split <;> split <;> omega

theorem addBinary_eq (p : Flags) (a m : Byte) :
    addBinary p a m =
      { result := BitVec.ofNat 8 (a.toNat + m.toNat + p.c.toNat)
        flags := { nz p (BitVec.ofNat 8 (a.toNat + m.toNat + p.c.toNat)) with
          c := decide (256 ≤ a.toNat + m.toNat + p.c.toNat)
          v := decide (a.toInt + m.toInt + p.c.toNat < -128 ∨
            127 < a.toInt + m.toInt + p.c.toNat) } } := by
  rw [← overflow_iff, ← nz_eq]
  rfl

theorem adc_eq_added {s : State} (hd : s.p.d = false) (len : Nat) (m : Byte) :
    { s.adc m with pc := pcAfter s len } = added s len m := by
  have hsum : adcSum s.tick s.p s.a m = addBinary s.p s.a m := by
    rw [adcSum, hd, if_neg Bool.false_ne_true]
  rw [State.adc_eq, hsum, addBinary_eq]
  rfl

theorem complement_toNat (m : Byte) : (m ^^^ 0xFF).toNat = 255 - m.toNat := by
  have hnot : m ^^^ 0xFF = ~~~m := BitVec.xor_allOnes
  rw [hnot, BitVec.toNat_not]

theorem complement_toInt (m : Byte) : (m ^^^ 0xFF).toInt = -1 - m.toInt := by
  have hm := m.isLt
  rw [byte_toInt, byte_toInt, complement_toNat]
  split <;> split <;> omega

/-- R195: the sum with the complement is 256 more than the difference. -/
theorem sbc_eq_subtracted {s : State} (hd : s.p.d = false) (len : Nat) (m : Byte) :
    { s.sbc m with pc := pcAfter s len } = subtracted s len m := by
  have hm := m.isLt
  have hdiff : sbcSum s.tick s.p s.a m = addBinary s.p s.a (m ^^^ 0xFF) := by
    rw [sbcSum, hd, if_neg Bool.false_ne_true]
  have hsum : ((s.a.toNat + (m ^^^ 0xFF).toNat + s.p.c.toNat : Nat) : Int) =
      (s.a.toNat : Int) - m.toNat - (1 - s.p.c.toNat) + 256 := by
    rw [complement_toNat]
    omega
  have hresult : BitVec.ofNat 8 (s.a.toNat + (m ^^^ 0xFF).toNat + s.p.c.toNat) =
      BitVec.ofInt 8 ((s.a.toNat : Int) - m.toNat - (1 - s.p.c.toNat)) := by
    rw [← BitVec.ofInt_natCast, hsum, BitVec.ofInt_add]
    exact BitVec.add_zero _
  have hcarry : decide (256 ≤ s.a.toNat + (m ^^^ 0xFF).toNat + s.p.c.toNat) =
      decide (0 ≤ (s.a.toNat : Int) - m.toNat - (1 - s.p.c.toNat)) := by
    rw [decide_eq_decide]
    omega
  have hsigned : s.a.toInt + (m ^^^ 0xFF).toInt + s.p.c.toNat =
      s.a.toInt - m.toInt - (1 - s.p.c.toNat) := by
    rw [complement_toInt]
    omega
  rw [State.sbc_eq, hdiff, addBinary_eq, hresult, hcarry, hsigned]
  rfl

/-- Settles O23: binary addition for ADC, the sum with the complement for SBC, in every form. -/
theorem binaryAddAndSubtract : Obligations.BinaryAddAndSubtract := by
  intro d m w s hd
  exact ⟨adcForms_of_retires fun h => h.completes_of_eq (adc_eq_added hd _ _),
    sbcForms_of_retires fun h => h.completes_of_eq (sbc_eq_subtracted hd _ _)⟩

/-! ## Decimal on valid digits, R192, R193 -/

theorem digits_toNat {tens units : Nat} (ht : tens ≤ 9) (hu : units ≤ 9) :
    (digits tens units).toNat = 16 * tens + units := by
  rw [digits, BitVec.toNat_ofNat]
  omega

theorem bcdValid_digits {tens units : Nat} (ht : tens ≤ 9) (hu : units ≤ 9) :
    bcdValid (digits tens units) = true := by
  simp only [bcdValid, digits_toNat ht hu, Bool.and_eq_true, decide_eq_true_eq]
  omega

theorem bcdValue_digits {tens units : Nat} (ht : tens ≤ 9) (hu : units ≤ 9) :
    bcdValue (digits tens units) = 10 * tens + units := by
  rw [bcdValue, digits_toNat ht hu]
  omega

theorem bcdEncode_eq_digits (n : Nat) : bcdEncode n = digits (n / 10) (n % 10) := by
  rw [bcdEncode, digits, Nat.mul_comm]

section
variable {s : State} {m : Byte} {ah al mh ml : Nat} (hd : s.p.d = true) (hah : ah ≤ 9)
  (hal : al ≤ 9) (hmh : mh ≤ 9) (hml : ml ≤ 9) (ha : s.a = digits ah al) (hm : m = digits mh ml)
include hd hah hal hmh hml ha hm

theorem adc_eq_decimalAdded (len : Nat) :
    { s.adc m with pc := pcAfter s len } =
      decimalAdded s len (10 * ah + al + (10 * mh + ml) + s.p.c.toNat)
        (Config.decimalV s.tick false s.a m s.p.c) := by
  have hvalid : (bcdValid s.a && bcdValid m) = true := by
    rw [ha, hm, bcdValid_digits hah hal, bcdValid_digits hmh hml, Bool.and_self]
  have hvalue : bcdValue s.a + bcdValue m = 10 * ah + al + (10 * mh + ml) := by
    rw [ha, hm, bcdValue_digits hah hal, bcdValue_digits hmh hml]
  have hdigits (n : Nat) : bcdEncode (n % 100) = digits (n / 10 % 10) (n % 10) := by
    rw [bcdEncode_eq_digits]
    congr 1 <;> omega
  rw [State.adc_eq, adcSum, hd, if_pos rfl, addDecimal, if_pos hvalid]
  simp only [hvalue, hdigits, nz_eq]
  rfl

theorem sbc_eq_decimalSubtracted (len : Nat) :
    { s.sbc m with pc := pcAfter s len } =
      decimalSubtracted s len
        (((10 * ah + al : Nat) : Int) - ((10 * mh + ml : Nat) : Int) - (1 - s.p.c.toNat))
        (Config.decimalV s.tick true s.a m s.p.c) := by
  have hvalid : (bcdValid s.a && bcdValid m) = true := by
    rw [ha, hm, bcdValid_digits hah hal, bcdValid_digits hmh hml, Bool.and_self]
  have hvalueA : bcdValue s.a = 10 * ah + al := by rw [ha, bcdValue_digits hah hal]
  have hvalueM : bcdValue m = 10 * mh + ml := by rw [hm, bcdValue_digits hmh hml]
  rw [State.sbc_eq, sbcSum, hd, if_pos rfl, subDecimal, if_pos hvalid]
  simp only [hvalueA, hvalueM, bcdEncode_eq_digits, nz_eq]
  rfl

end

/-- Settles O24: the decimal sum and difference in every form, V being the free value of D14. -/
theorem decimalAddAndSubtract : Obligations.DecimalAddAndSubtract := by
  intro d m w s hd
  refine ⟨adcForms_of_retires ?adc, sbcForms_of_retires ?sbc⟩
  case adc =>
    intro i op len cyc v h ah al mh ml hah hal hmh hml ha hm
    exact ⟨_, h.completes_of_eq (adc_eq_decimalAdded hd hah hal hmh hml ha hm len)⟩
  case sbc =>
    intro i op len cyc v h ah al mh ml hah hal hmh hml ha hm
    exact ⟨_, h.completes_of_eq (sbc_eq_decimalSubtracted hd hah hal hmh hml ha hm len)⟩

/-! ## Decimal on invalid digits, D14, U5 -/

theorem not_bcdValid_of_someDigitInvalid {a m : Byte} (h : SomeDigitInvalid a m) :
    ¬(bcdValid a && bcdValid m) = true := by
  simp only [SomeDigitInvalid] at h
  simp only [bcdValid, Bool.and_eq_true, decide_eq_true_eq]
  omega

/-- Settles O25: both operations end in the free values, whatever the form. -/
theorem decimalWithInvalidDigits : Obligations.DecimalWithInvalidDigits := by
  intro d m w s hd
  refine ⟨adcForms_of_retires ?adc, sbcForms_of_retires ?sbc⟩
  case adc =>
    intro i op len cyc v h hinvalid
    have hsum : adcSum s.tick s.p s.a v = invalidBcd s.tick false s.p s.a v := by
      rw [adcSum, hd, if_pos rfl, addDecimal, if_neg (not_bcdValid_of_someDigitInvalid hinvalid)]
    exact ⟨_, _, _, _, _, h.completes_of_eq (by rw [State.adc_eq, hsum, invalidBcd])⟩
  case sbc =>
    intro i op len cyc v h hinvalid
    have hsum : sbcSum s.tick s.p s.a v = invalidBcd s.tick true s.p s.a v := by
      rw [sbcSum, hd, if_pos rfl, subDecimal, if_neg (not_bcdValid_of_someDigitInvalid hinvalid)]
    exact ⟨_, _, _, _, _, h.completes_of_eq (by rw [State.sbc_eq, hsum, invalidBcd])⟩

end Sys2Proof.Claims
end
section
/-! PROOFS. The shifts, steps and bit operations as arithmetic on the byte or word, on the accumulator and
in memory (R204 to R225), and the stores (R255 to R258). -/

namespace Sys2Proof.Claims

open Sys2Proof.Machine

/-! ## The operations on bytes and words -/

theorem byte_succ (v : Byte) : v + 1 = BitVec.ofNat 8 (v.toNat + 1) := by
  bv_omega

theorem byte_pred (v : Byte) : v - 1 = BitVec.ofNat 8 (v.toNat + 255) := by
  bv_omega

theorem byte_neg (v : Byte) : 0 - v = BitVec.ofNat 8 (256 - v.toNat) := by
  bv_omega

theorem word_succ (w : Word) : w + 1 = BitVec.ofNat 16 (w.toNat + 1) := by
  bv_omega

theorem word_pred (w : Word) : w - 1 = BitVec.ofNat 16 (w.toNat + 65535) := by
  bv_omega

theorem aslOp_eq_asl : aslOp = asl := by
  funext c m
  revert c m
  decide

theorem lsrOp_eq_lsr : lsrOp = lsr := by
  funext c m
  revert c m
  decide

theorem asrOp_eq_asr : asrOp = asr := by
  funext c m
  revert c m
  decide

theorem rolOp_eq_rol : rolOp = rol := by
  funext c m
  revert c m
  decide

theorem rorOp_eq_ror : rorOp = ror := by
  funext c m
  revert c m
  decide

/-- A bit shifted into the low end of a word, which a shift left has cleared. -/
theorem shiftLeft_or_ofBool (w : Word) (c : Bool) :
    (w <<< 1) ||| (BitVec.ofBool c).setWidth 16 = BitVec.ofNat 16 (2 * w.toNat + c.toNat) := by
  have hw := w.isLt
  have hc : c.toNat < 2 ^ 1 := c.toNat_lt
  have hshift : w.toNat <<< 1 % 2 ^ 16 = 2 ^ 1 * (w.toNat % 2 ^ 15) := by
    rw [Nat.shiftLeft_eq]
    omega
  have hbit : ((BitVec.ofBool c).setWidth 16).toNat = c.toNat := by cases c <;> rfl
  apply BitVec.eq_of_toNat_eq
  rw [BitVec.toNat_or, BitVec.toNat_shiftLeft, hshift, hbit, ← Nat.two_pow_add_eq_or_of_lt hc,
    BitVec.toNat_ofNat]
  omega

theorem rowOp_eq (c : Bool) (w : Word) :
    rowOp c w = (BitVec.ofNat 16 (2 * w.toNat + c.toNat), decide (32768 ≤ w.toNat)) := by
  rw [rowOp, shiftLeft_or_ofBool]
  exact congrArg (Prod.mk _) (BitVec.msb_eq_decide w)

theorem aswOp_eq (c : Bool) (w : Word) :
    aswOp c w = (BitVec.ofNat 16 (2 * w.toNat), decide (32768 ≤ w.toNat)) := by
  have hrow := rowOp_eq false w
  have hzero : (BitVec.ofBool false).setWidth 16 = 0#16 := rfl
  rw [rowOp, hzero, BitVec.or_zero] at hrow
  exact hrow

/-- R224: bit `n` taken from a byte. -/
theorem and_not_bitMask : ∀ (n : Fin 8) (m : Byte),
    m &&& ~~~bitMask n = BitVec.ofNat 8 (m.toNat - if bit m n then 2 ^ n.val else 0) := by
  decide

/-- R225: bit `n` given to a byte. -/
theorem or_bitMask : ∀ (n : Fin 8) (m : Byte),
    m ||| bitMask n = BitVec.ofNat 8 (m.toNat + if bit m n then 0 else 2 ^ n.val) := by
  decide

/-! ## Instructions that store and retire -/

section
variable {i : Instr} {op : Byte} {len cyc : Nat} {s t : State} {ea : Word} {v : Byte}

/-- An instruction that retires a state made of the one with its bytes stored. -/
theorem Retires.storing {cells : List StoredByte} {next : State → State}
    (h : Retires i op len cyc s t) (hwf : s.mem.wf = true)
    (hdiff : cells.Pairwise fun c e => c.2.1 ≠ e.2.1)
    (hnext : { t with pc := pcAfter s len } = next (storeAll s cells)) :
    CompletesStoring i op len cyc s cells next :=
  ⟨storeAll s cells, wrote_storeAll hwf hdiff, h.completes_of_eq hnext⟩

theorem Retires.writeData (h : Retires i op len cyc s (s.writeData ea v))
    (hwf : s.mem.wf = true) :
    CompletesStoring i op len cyc s [(.writeLo, ea, v)] fun u => { u with pc := pcAfter s len } :=
  h.storing hwf (List.pairwise_singleton _ _) rfl

/-- One byte written back with new flags. -/
theorem Retires.writeDataP {p : Flags}
    (h : Retires i op len cyc s ((s.writeData ea v).setP p)) (hwf : s.mem.wf = true) :
    CompletesStoring i op len cyc s [(.writeLo, ea, v)] fun u =>
      { u with p := p, pc := pcAfter s len } :=
  h.storing hwf (List.pairwise_singleton _ _) rfl

theorem Retires.putMem (h : Retires i op len cyc s (s.putMem ea v)) (hwf : s.mem.wf = true) :
    CompletesStoring i op len cyc s [(.writeLo, ea, v)] fun u =>
      { u with p := nz s.p v, pc := pcAfter s len } := by
  rw [State.putMem, nz_eq] at h
  exact h.writeDataP hwf

theorem Retires.shiftMem {f : Bool → Byte → Byte × Bool}
    (h : Retires i op len cyc s (s.shiftMem f ea)) (hwf : s.mem.wf = true) :
    ShiftsMemory f s i op len cyc ea := by
  rw [State.shiftMem, Flags.shifted, nz_eq] at h
  exact h.writeDataP hwf

theorem Retires.shiftA {f : Bool → Byte → Byte × Bool}
    (h : Retires i op 1 cyc s (s.shiftA f)) : Completes i op 1 cyc s (shiftedA s f) := by
  rw [State.shiftA, Flags.shifted, nz_eq] at h
  exact h.completes

/-- Two bytes of a word written back with new flags, low byte first. -/
theorem Retires.writeWord {lo hi w : Word} {p : Flags} (hne : lo ≠ hi)
    (h : Retires i op len cyc s ((s.writeWord lo hi w).setP p)) (hwf : s.mem.wf = true) :
    WritesWord i op len cyc s lo hi w p := by
  rw [writeWord_eq_storeAll] at h
  exact h.storing hwf (by simpa using hne) rfl

/-- R220, R221: a word shifted in memory, given what the shift computes. -/
theorem Retires.shiftWord {lo hi r : Word} {c : Bool} {f : Bool → Word → Word × Bool}
    (hne : lo ≠ hi) (hop : f s.p.c (s.wordAt lo hi) = (r, c))
    (h : Retires i op len cyc s (s.shiftWord f lo hi)) (hwf : s.mem.wf = true) :
    WritesWord i op len cyc s lo hi r { nz16 s.p r with c := c } := by
  rw [State.shiftWord, Flags.shifted16, hop, nz16_eq] at h
  exact h.writeWord hne hwf

theorem Retires.testSet (h : Retires i op len cyc s (s.testSet ea)) (hwf : s.mem.wf = true) :
    CompletesStoring i op len cyc s [(.writeLo, ea, s.a ||| s.dataAt ea)] fun u =>
      { u with
        p := { s.p with zf := decide ((s.a &&& s.dataAt ea).toNat = 0) }
        pc := pcAfter s len } := by
  rw [State.testSet, State.testFlags, byte_beq_zero] at h
  exact h.writeDataP hwf

theorem Retires.testReset (h : Retires i op len cyc s (s.testReset ea)) (hwf : s.mem.wf = true) :
    CompletesStoring i op len cyc s [(.writeLo, ea, ~~~s.a &&& s.dataAt ea)] fun u =>
      { u with
        p := { s.p with zf := decide ((s.a &&& s.dataAt ea).toNat = 0) }
        pc := pcAfter s len } := by
  have hnot : s.a ^^^ 0xFF = ~~~s.a := BitVec.xor_allOnes
  rw [State.testReset, State.testFlags, byte_beq_zero, hnot] at h
  exact h.writeDataP hwf

theorem Retires.resetBit (n : Fin 8) (h : Retires i op len cyc s (s.resetBit n ea))
    (hwf : s.mem.wf = true) :
    CompletesStoring i op len cyc s
      [(.writeLo, ea,
        BitVec.ofNat 8 ((s.dataAt ea).toNat - if bit (s.dataAt ea) n then 2 ^ n.val else 0))]
      fun u => { u with pc := pcAfter s len } := by
  rw [State.resetBit, and_not_bitMask] at h
  exact h.writeData hwf

theorem Retires.setBit (n : Fin 8) (h : Retires i op len cyc s (s.setBit n ea))
    (hwf : s.mem.wf = true) :
    CompletesStoring i op len cyc s
      [(.writeLo, ea,
        BitVec.ofNat 8 ((s.dataAt ea).toNat + if bit (s.dataAt ea) n then 0 else 2 ^ n.val))]
      fun u => { u with pc := pcAfter s len } := by
  rw [State.setBit, or_bitMask] at h
  exact h.writeData hwf

end

/-! ## The statements -/

/-- Settles O22: each of the 21 forms retires one data write of its register. -/
theorem storesWriteOneByte : Obligations.StoresWriteOneByte := by
  intro d w s hwf
  unfold staForms stxForms styForms stzForms
  refine ⟨?sta, ?stx, ?sty, ?stz⟩
  case sta =>
    refine ⟨?_, ?_, ?_, ?_, ?_, ?_, ?_, ?_, ?_⟩ <;>
      exact Retires.writeData ⟨rfl, rfl, rfl, rfl⟩ hwf
  case stx => refine ⟨?_, ?_, ?_, ?_⟩ <;> exact Retires.writeData ⟨rfl, rfl, rfl, rfl⟩ hwf
  case sty => refine ⟨?_, ?_, ?_, ?_⟩ <;> exact Retires.writeData ⟨rfl, rfl, rfl, rfl⟩ hwf
  case stz => refine ⟨?_, ?_, ?_, ?_⟩ <;> exact Retires.writeData ⟨rfl, rfl, rfl, rfl⟩ hwf

/-- Settles O29: in memory one write of the stepped byte with its flags, in a register one load of it. -/
theorem incrementDecrementNegate : Obligations.IncrementDecrementNegate := by
  intro d w s
  simp only [← byte_succ, ← byte_pred, ← byte_neg]
  refine ⟨fun hwf => ⟨?inc, ?dec⟩, Retires.putA ⟨rfl, rfl, rfl, rfl⟩,
    Retires.putX ⟨rfl, rfl, rfl, rfl⟩, Retires.putY ⟨rfl, rfl, rfl, rfl⟩,
    Retires.putZ ⟨rfl, rfl, rfl, rfl⟩, Retires.putA ⟨rfl, rfl, rfl, rfl⟩,
    Retires.putX ⟨rfl, rfl, rfl, rfl⟩, Retires.putY ⟨rfl, rfl, rfl, rfl⟩,
    Retires.putZ ⟨rfl, rfl, rfl, rfl⟩, Retires.putA ⟨rfl, rfl, rfl, rfl⟩⟩
  case inc =>
    unfold incForms
    refine ⟨?_, ?_, ?_, ?_⟩ <;> exact Retires.putMem ⟨rfl, rfl, rfl, rfl⟩ hwf
  case dec =>
    unfold decForms
    refine ⟨?_, ?_, ?_, ?_⟩ <;> exact Retires.putMem ⟨rfl, rfl, rfl, rfl⟩ hwf

theorem eaBp_ne_eaBpNext (d : Byte) (s : State) : eaBp d s ≠ eaBpNext d s := by
  intro h
  have hlow := congrArg loByte h
  simp only [eaBp, eaBpNext, State.bp, loByte_wordOf] at hlow
  bv_omega

/-- Settles O30: INW and DEW write the stepped word, ASW and ROW the shifted one, low byte first. -/
theorem wordStepsAndShifts : Obligations.WordStepsAndShifts := by
  have hread (s : State) (lo hi : Word) : operandWord s lo hi = s.wordAt lo hi :=
    (wordOf_eq_word _ _).symm
  refine ⟨fun d s hwf => ?steps, fun w s hwf => ?shifts⟩
  case steps =>
    simp only [hread, ← word_succ, ← word_pred, ← nz16_eq]
    exact ⟨Retires.writeWord (eaBp_ne_eaBpNext d s) ⟨rfl, rfl, rfl, rfl⟩ hwf,
      Retires.writeWord (eaBp_ne_eaBpNext d s) ⟨rfl, rfl, rfl, rfl⟩ hwf⟩
  case shifts =>
    have hne : w ≠ w + 1 := by bv_omega
    simp only [hread]
    exact ⟨Retires.shiftWord hne (aswOp_eq _ _) ⟨rfl, rfl, rfl, rfl⟩ hwf,
      Retires.shiftWord hne (rowOp_eq _ _) ⟨rfl, rfl, rfl, rfl⟩ hwf⟩

/-- Settles O31: the model's bit operations are the arithmetic ones, on A and in every memory form. -/
theorem shiftsAndRotates : Obligations.ShiftsAndRotates := by
  intro d w s
  simp only [← aslOp_eq_asl, ← lsrOp_eq_lsr, ← asrOp_eq_asr, ← rolOp_eq_rol, ← rorOp_eq_ror]
  refine ⟨Retires.shiftA ⟨rfl, rfl, rfl, rfl⟩, Retires.shiftA ⟨rfl, rfl, rfl, rfl⟩,
    Retires.shiftA ⟨rfl, rfl, rfl, rfl⟩, Retires.shiftA ⟨rfl, rfl, rfl, rfl⟩,
    Retires.shiftA ⟨rfl, rfl, rfl, rfl⟩, fun hwf => ?_⟩
  unfold aslForms lsrForms asrForms rolForms rorForms
  refine ⟨?asl, ?lsr, ?asr, ?rol, ?ror⟩
  case asl => refine ⟨?_, ?_, ?_, ?_⟩ <;> exact Retires.shiftMem ⟨rfl, rfl, rfl, rfl⟩ hwf
  case lsr => refine ⟨?_, ?_, ?_, ?_⟩ <;> exact Retires.shiftMem ⟨rfl, rfl, rfl, rfl⟩ hwf
  case asr => refine ⟨?_, ?_⟩ <;> exact Retires.shiftMem ⟨rfl, rfl, rfl, rfl⟩ hwf
  case rol => refine ⟨?_, ?_, ?_, ?_⟩ <;> exact Retires.shiftMem ⟨rfl, rfl, rfl, rfl⟩ hwf
  case ror => refine ⟨?_, ?_, ?_, ?_⟩ <;> exact Retires.shiftMem ⟨rfl, rfl, rfl, rfl⟩ hwf

/-- Settles O32: one write each, TSB and TRB with the zero flag of the test. -/
theorem setAndResetMemoryBits : Obligations.SetAndResetMemoryBits := by
  refine ⟨fun d w s hwf => ?test, fun d s hwf => ?single⟩
  case test =>
    exact ⟨⟨Retires.testSet ⟨rfl, rfl, rfl, rfl⟩ hwf, Retires.testSet ⟨rfl, rfl, rfl, rfl⟩ hwf⟩,
      Retires.testReset ⟨rfl, rfl, rfl, rfl⟩ hwf, Retires.testReset ⟨rfl, rfl, rfl, rfl⟩ hwf⟩
  case single =>
    exact ⟨⟨Retires.resetBit 0 ⟨rfl, rfl, rfl, rfl⟩ hwf, Retires.resetBit 1 ⟨rfl, rfl, rfl, rfl⟩ hwf,
      Retires.resetBit 2 ⟨rfl, rfl, rfl, rfl⟩ hwf, Retires.resetBit 3 ⟨rfl, rfl, rfl, rfl⟩ hwf,
      Retires.resetBit 4 ⟨rfl, rfl, rfl, rfl⟩ hwf, Retires.resetBit 5 ⟨rfl, rfl, rfl, rfl⟩ hwf,
      Retires.resetBit 6 ⟨rfl, rfl, rfl, rfl⟩ hwf, Retires.resetBit 7 ⟨rfl, rfl, rfl, rfl⟩ hwf⟩,
      Retires.setBit 0 ⟨rfl, rfl, rfl, rfl⟩ hwf, Retires.setBit 1 ⟨rfl, rfl, rfl, rfl⟩ hwf,
      Retires.setBit 2 ⟨rfl, rfl, rfl, rfl⟩ hwf, Retires.setBit 3 ⟨rfl, rfl, rfl, rfl⟩ hwf,
      Retires.setBit 4 ⟨rfl, rfl, rfl, rfl⟩ hwf, Retires.setBit 5 ⟨rfl, rfl, rfl, rfl⟩ hwf,
      Retires.setBit 6 ⟨rfl, rfl, rfl, rfl⟩ hwf, Retires.setBit 7 ⟨rfl, rfl, rfl, rfl⟩ hwf⟩

end Sys2Proof.Claims
end
section
/-! PROOFS. Effective addresses, pointers and targets as numbers (R120 to R141), and what only reads them:
the bit branches (R160, R161), the jumps (R163) and the transfers (R270 to R281). -/

namespace Sys2Proof.Claims

open Sys2Proof.Machine

/-! ## Addresses -/

theorem bp_toNat (s : State) (d : Byte) : (s.bp d).toNat = 256 * s.b.toNat + d.toNat :=
  wordOf_toNat s.b d

theorem bp_ofNat (s : State) (k : Nat) : s.bp (BitVec.ofNat 8 k) = basePage s k := by
  have hb := s.b.isLt
  apply BitVec.eq_of_toNat_eq
  rw [bp_toNat, basePage, BitVec.toNat_ofNat, BitVec.toNat_ofNat]
  omega

theorem byte_add (v w : Byte) : v + w = BitVec.ofNat 8 (v.toNat + w.toNat) := by
  bv_omega

theorem zext16_toNat (v : Byte) : (zext16 v).toNat = v.toNat := by
  rw [zext16, BitVec.toNat_setWidth]
  omega

theorem add_zext16_toNat (w : Word) (v : Byte) :
    (w + zext16 v).toNat = (w.toNat + v.toNat) % 65536 := by
  rw [BitVec.toNat_add, zext16_toNat]

theorem add_zext16 (w : Word) (v : Byte) : w + zext16 v = BitVec.ofNat 16 (w.toNat + v.toNat) := by
  apply BitVec.eq_of_toNat_eq
  rw [add_zext16_toNat, BitVec.toNat_ofNat]

theorem ofInt16_toNat (i : Int) : ((BitVec.ofInt 16 i).toNat : Int) = i % 65536 := by
  rw [BitVec.toNat_ofInt]
  omega

theorem targetBpRel_eq_ofInt (r : Byte) (s : State) :
    targetBpRel r s = BitVec.ofInt 16 (s.pc.toNat + 3 + r.toInt) :=
  (ofInt_pc_add s 3 r.toInt).symm

/-- Settles O6: the base-page modes keep the high byte, the absolute ones carry into it, and each target is
its signed offset from the byte its rule names. -/
theorem directAddresses : Obligations.DirectAddresses := by
  intro d r w s
  refine ⟨bp_toNat s d, ?_, ?_, ?_, rfl, add_zext16_toNat w s.x, add_zext16_toNat w s.y, ?_, ?_, ?_⟩
  · exact (bp_toNat s (d + 1)).trans (by rw [BitVec.toNat_add]; rfl)
  · exact (bp_toNat s (d + s.x)).trans (by rw [BitVec.toNat_add])
  · exact (bp_toNat s (d + s.y)).trans (by rw [BitVec.toNat_add])
  · rw [targetRel_eq_ofInt, ofInt16_toNat]
  · rw [targetWrel_eq_ofInt, ofInt16_toNat]
  · rw [targetBpRel_eq_ofInt, ofInt16_toNat]

/-! ## Pointers -/

theorem pointer_eq_pointerWord (s : State) (lo hi : Word) : s.pointer lo hi = pointerWord s lo hi :=
  wordOf_eq_word _ _

theorem bpPointer_eq (d : Byte) (s : State) :
    bpPointer d s = pointerWord s (basePage s d.toNat) (basePage s (d.toNat + 1)) := by
  have hfirst := bp_ofNat s d.toNat
  rw [BitVec.ofNat_toNat, BitVec.setWidth_eq] at hfirst
  rw [bpPointer, pointer_eq_pointerWord, byte_succ, bp_ofNat, hfirst]

theorem eaBpXInd_eq (d : Byte) (s : State) :
    eaBpXInd d s = pointerWord s (basePage s (d.toNat + s.x.toNat))
      (basePage s (d.toNat + s.x.toNat + 1)) := by
  have hnext : d + s.x + 1 = BitVec.ofNat 8 (d.toNat + s.x.toNat + 1) := by bv_omega
  rw [eaBpXInd, pointer_eq_pointerWord, hnext, byte_add, bp_ofNat, bp_ofNat]

/-- R133: both bytes of the pointer of (D,SP),Y are stack addresses above SP, in the page or not. -/
theorem eaSpIndY_eq (d : Byte) (s : State) :
    eaSpIndY d s =
      pointerWord s (upFrom (s.p.e && s.cfg.stackRelPageWrap) s.sp d.toNat)
        (upFrom (s.p.e && s.cfg.stackRelPageWrap) s.sp (d.toNat + 1)) + zext16 s.y := by
  have hlo : spPointerLo d s = spUp (s.p.e && s.cfg.stackRelPageWrap) s.sp d := rfl
  have hhi : spPointerHi d s = spUp (s.p.e && s.cfg.stackRelPageWrap)
      (spUp (s.p.e && s.cfg.stackRelPageWrap) s.sp d) 1 := by
    cases hwrap : s.p.e && s.cfg.stackRelPageWrap with
    | false => simp only [spPointerHi, spUp, hwrap]; rfl
    | true => simp only [spPointerHi, spUp, hwrap, if_true, hiByte_wordOf, loByte_wordOf]; rfl
  rw [eaSpIndY, pointer_eq_pointerWord, hlo, hhi, spUp_eq_upFrom, spUp_eq_upFrom, upFrom_upFrom]
  rfl

theorem targetAbsInd_eq (w : Word) (s : State) :
    targetAbsInd w s = pointerWord s w (BitVec.ofNat 16 (w.toNat + 1)) := by
  rw [targetAbsInd, pointer_eq_pointerWord, word_succ]

theorem targetAbsXInd_eq (w : Word) (s : State) :
    targetAbsXInd w s = pointerWord s (BitVec.ofNat 16 (w.toNat + s.x.toNat))
      (BitVec.ofNat 16 (w.toNat + s.x.toNat + 1)) := by
  have hnext : BitVec.ofNat 16 (w.toNat + s.x.toNat) + 1 =
      BitVec.ofNat 16 (w.toNat + s.x.toNat + 1) := by bv_omega
  rw [targetAbsXInd, pointer_eq_pointerWord, add_zext16, hnext]

/-- Settles O7: each mode is the pointer at its two addresses, with the index added afterwards. -/
theorem pointerAddresses : Obligations.PointerAddresses := by
  intro d w s
  refine ⟨eaBpXInd_eq d s, ?_, ?_, ?_, ?_, targetAbsInd_eq w s, targetAbsXInd_eq w s⟩
  · rw [← bpPointer_eq, ← add_zext16_toNat, eaBpIndY]
  · rw [← bpPointer_eq, ← add_zext16_toNat, eaBpIndZ]
  · intro he hwrap
    rw [eaSpIndY_eq, he, hwrap, add_zext16_toNat]
    rfl
  · intro hlinear
    have hno : (s.p.e && s.cfg.stackRelPageWrap) = false := Bool.and_eq_false_iff.mpr hlinear
    rw [eaSpIndY_eq, hno, add_zext16_toNat]

/-! ## Bit branches -/

theorem branch_targetBpRel (s : State) (r : Byte) (cond : Bool) :
    branch s 3 cond (targetBpRel r s) = .next { s with
      pc := if cond then BitVec.ofInt 16 (s.pc.toNat + 3 + r.toInt) else pcAfter s 3 } := by
  rw [branch_eq, targetBpRel_eq_ofInt, ← pc_add_eq_pcAfter]
  rfl

section
variable {i : Instr} {s : State} {m r : Byte} {n : Nat} (op : Byte) (hop : i.opcode = op)
  (hlen : opcodeLength op = 3) (hcyc : opcodeCycles op = 4)
include hop hlen hcyc

theorem completes_bbs
    (hexec : exec i s = branch s 3 (m.getLsbD n) (targetBpRel r s)) :
    Completes i op 3 4 s { s with
      pc := if bit m n then BitVec.ofInt 16 (s.pc.toNat + 3 + r.toInt) else pcAfter s 3 } := by
  rw [branch_targetBpRel, getLsbD_eq_bit] at hexec
  exact completes_of_opcode hop hlen hcyc hexec

theorem completes_bbr
    (hexec : exec i s = branch s 3 (!m.getLsbD n) (targetBpRel r s)) :
    Completes i op 3 4 s { s with
      pc := if bit m n then pcAfter s 3 else BitVec.ofInt 16 (s.pc.toNat + 3 + r.toInt) } := by
  rw [branch_targetBpRel, getLsbD_eq_bit] at hexec
  refine completes_of_opcode hop hlen hcyc (hexec.trans ?_)
  cases bit m n <;> rfl

end

/-- Settles O33: each of the sixteen is the template of R150 on its bit being clear or set. -/
theorem bitBranches : Obligations.BitBranches := by
  intro d r s
  exact ⟨⟨completes_bbr 0x0F rfl rfl rfl rfl, completes_bbr 0x1F rfl rfl rfl rfl,
      completes_bbr 0x2F rfl rfl rfl rfl, completes_bbr 0x3F rfl rfl rfl rfl,
      completes_bbr 0x4F rfl rfl rfl rfl, completes_bbr 0x5F rfl rfl rfl rfl,
      completes_bbr 0x6F rfl rfl rfl rfl, completes_bbr 0x7F rfl rfl rfl rfl⟩,
    completes_bbs 0x8F rfl rfl rfl rfl, completes_bbs 0x9F rfl rfl rfl rfl,
    completes_bbs 0xAF rfl rfl rfl rfl, completes_bbs 0xBF rfl rfl rfl rfl,
    completes_bbs 0xCF rfl rfl rfl rfl, completes_bbs 0xDF rfl rfl rfl rfl,
    completes_bbs 0xEF rfl rfl rfl rfl, completes_bbs 0xFF rfl rfl rfl rfl⟩

/-! ## Jumps and transfers -/

/-- Settles O35: the operand itself, or the pointer at it. -/
theorem jumpsLoadThePc : Obligations.JumpsLoadThePc := by
  intro w s
  rw [← targetAbsInd_eq, ← targetAbsXInd_eq]
  exact ⟨completes_of_opcode (op := 0x4C) rfl rfl rfl rfl,
    completes_of_opcode (op := 0x6C) rfl rfl rfl rfl,
    completes_of_opcode (op := 0x7C) rfl rfl rfl rfl⟩

theorem wordOf_sph (s : State) (v : Byte) :
    wordOf s.sph v = BitVec.ofNat 16 (s.sp.toNat / 256 * 256 + v.toNat) := by
  apply BitVec.eq_of_toNat_eq
  rw [wordOf_toNat, State.sph, hiByte_toNat, BitVec.toNat_ofNat]
  omega

theorem wordOf_spl (s : State) (v : Byte) :
    wordOf v s.spl = BitVec.ofNat 16 (256 * v.toNat + s.sp.toNat % 256) := by
  apply BitVec.eq_of_toNat_eq
  rw [wordOf_toNat, State.spl, loByte_toNat, BitVec.toNat_ofNat]
  omega

/-- Settles O41: nine loads of a register from another, TAB, and the two halves of SP. -/
theorem transfersCopyTheRegister : Obligations.TransfersCopyTheRegister := by
  intro s
  have hspl : BitVec.ofNat 8 (s.sp.toNat % 256) = s.spl := (loByte_eq_low s.sp).symm
  have hsph : BitVec.ofNat 8 (s.sp.toNat / 256) = s.sph := (hiByte_eq_high s.sp).symm
  rw [hspl, hsph, ← wordOf_sph, ← wordOf_spl]
  refine ⟨Retires.putX ⟨rfl, rfl, rfl, rfl⟩, Retires.putY ⟨rfl, rfl, rfl, rfl⟩,
    Retires.putZ ⟨rfl, rfl, rfl, rfl⟩, Retires.putA ⟨rfl, rfl, rfl, rfl⟩,
    Retires.putA ⟨rfl, rfl, rfl, rfl⟩, Retires.putA ⟨rfl, rfl, rfl, rfl⟩,
    Retires.putA ⟨rfl, rfl, rfl, rfl⟩, Retires.putX ⟨rfl, rfl, rfl, rfl⟩,
    Retires.putY ⟨rfl, rfl, rfl, rfl⟩, ?tab, ?txs, ?tys⟩
  case tab => exact Retires.completes (t := s.setB s.a) ⟨rfl, rfl, rfl, rfl⟩
  case txs => exact Retires.completes (t := s.setSp (wordOf s.sph s.x)) ⟨rfl, rfl, rfl, rfl⟩
  case tys => exact Retires.completes (t := s.setSp (wordOf s.y s.spl)) ⟨rfl, rfl, rfl, rfl⟩

end Sys2Proof.Claims
end
section
/-! PROOFS. Pushes, pulls, calls, returns, traps and the return from one, as bytes stored below SP and reads
above it (R150, R162 to R166, R259 to R269, R322, R323, R352). -/

namespace Sys2Proof.Claims

open Sys2Proof.Machine

/-! ## Pulls -/

theorem spUp_eq_above (s : State) (n : Byte) : spUp s.p.e s.sp n = above s n.toNat :=
  spUp_eq_upFrom s.p.e s.sp n

theorem incSp_eq (s : State) : s.incSp = s.setSp (above s 1) :=
  congrArg s.setSp (spUp_eq_above s 1)

theorem pulled_eq (s : State) (slot : BusSlot) : s.pulled slot = s.read slot (above s 1) :=
  congrArg (s.read slot) (spUp_eq_above s 1)

theorem pullP_eq (s : State) :
    s.pullP = { s with
      p := loadP s.p s.cfg.pullPWritesE (s.read .pull1 (above s 1))
      sp := above s 1 } := by
  rw [State.pullP, incSp_eq, pulled_eq, load_eq_loadP]
  rfl

/-- Settles O40: a load of the register, or of the flags, from the address one step up. -/
theorem pullsLoadTheRegister : Obligations.PullsLoadTheRegister := by
  intro s
  have hsp := incSp_eq s
  have hbyte := pulled_eq s .pull1
  have hpla : Retires .pla 0x68 1 3 s (s.incSp.putA (s.pulled .pull1)) := ⟨rfl, rfl, rfl, rfl⟩
  have hplx : Retires .plx 0xFA 1 3 s (s.incSp.putX (s.pulled .pull1)) := ⟨rfl, rfl, rfl, rfl⟩
  have hply : Retires .ply 0x7A 1 3 s (s.incSp.putY (s.pulled .pull1)) := ⟨rfl, rfl, rfl, rfl⟩
  have hplz : Retires .plz 0xFB 1 3 s (s.incSp.putZ (s.pulled .pull1)) := ⟨rfl, rfl, rfl, rfl⟩
  have hplp : Retires .plp 0x28 1 3 s s.pullP := ⟨rfl, rfl, rfl, rfl⟩
  rw [hsp, hbyte, State.putA_eq, nz_eq] at hpla
  rw [hsp, hbyte, State.putX_eq, nz_eq] at hplx
  rw [hsp, hbyte, State.putY_eq, nz_eq] at hply
  rw [hsp, hbyte, State.putZ_eq, nz_eq] at hplz
  rw [pullP_eq] at hplp
  exact ⟨hpla.completes, hplx.completes, hply.completes, hplz.completes, hplp.completes⟩

/-! ## Returns -/

theorem afterReturnPull_eq_above (s : State) : s.afterReturnPull = s.setSp (above s 2) := by
  have hsp : spUp s.p.e (spUp s.p.e s.sp 1) 1 = above s 2 := by
    rw [spUp_eq_upFrom, spUp_eq_upFrom, upFrom_upFrom]
    rfl
  rw [State.afterReturnPull_eq, hsp]
  rfl

theorem returnAddress_eq (s : State) :
    s.returnAddress = BitVec.ofNat 16
      ((word (s.read .pull2 (above s 2)) (s.read .pull1 (above s 1))).toNat + 1) := by
  have hsecond : s.incSp.pulled .pull2 = s.read .pull2 (above s 2) :=
    congrArg (fun t : State => s.read .pull2 t.sp) (afterReturnPull_eq_above s)
  rw [State.returnAddress, hsecond, pulled_eq, wordOf_eq_word, word_succ]

theorem above_adjustSp (s : State) (n : Byte) (k : Nat) :
    above (s.adjustSp n) k = above s (n.toNat + k) := by
  have hsp : (s.adjustSp n).sp = above s n.toNat := spUp_eq_above s n
  rw [above, State.adjustSp_p, hsp, above, upFrom_upFrom, above]

theorem adjustSp_above (s : State) (n : Byte) (k : Nat) :
    (s.setSp (above s k)).adjustSp n = s.setSp (above s (k + n.toNat)) := by
  have hsp : spUp s.p.e (above s k) n = above s (k + n.toNat) := by
    rw [spUp_eq_upFrom, above, upFrom_upFrom, above]
  rw [← hsp]
  rfl

/-- Settles O37: the two pulls above SP, and RTN's count added after or before them. -/
theorem returnsPullTheAddress : Obligations.ReturnsPullTheAddress := by
  intro n s
  rw [← returnAddress_eq]
  refine ⟨?rts, fun horder => ?after, fun horder => ?before⟩
  case rts =>
    have hexec : exec .rts s = .next (s.afterReturnPull.setPc s.returnAddress) := rfl
    rw [afterReturnPull_eq_above] at hexec
    exact completes_of_opcode (op := 0x60) rfl rfl rfl hexec
  case after =>
    have hexec : exec (.rtn n) s =
        .next ((s.afterReturnPull.adjustSp n).setPc s.returnAddress) := by
      simp only [exec, execRtn, horder]
    rw [afterReturnPull_eq_above, adjustSp_above] at hexec
    exact completes_of_opcode (op := 0x62) rfl rfl rfl hexec
  case before =>
    have hexec : exec (.rtn n) s =
        .next ((s.adjustSp n).afterReturnPull.setPc (s.adjustSp n).returnAddress) := by
      simp only [exec, execRtn, horder]
    rw [afterReturnPull_eq_above, returnAddress_eq, above_adjustSp, above_adjustSp] at hexec
    exact completes_of_opcode (op := 0x62) rfl rfl rfl hexec

/-! ## Pushes and calls -/

theorem Retires.pushTwo {i : Instr} {op : Byte} {len cyc : Nat} {s : State} {v w : Byte}
    (h : Retires i op len cyc s ((s.push .push1 v).push .push2 w)) (hwf : s.mem.wf = true) :
    CompletesStoring i op len cyc s [(.push1, s.sp, v), (.push2, below s 1, w)] fun u =>
      { u with sp := below s 2, pc := pcAfter s len } := by
  rw [push_push_eq_storeAll] at h
  exact h.storing hwf (two_pushes_differ .push1 .push2 v w) rfl

theorem pushWord_highFirst {s : State} (h : s.cfg.phwOrder = .highFirst) (w : Word) :
    s.pushWord w = (s.push .push1 (high w)).push .push2 (low w) := by
  simp only [State.pushWord, h, hiByte_eq_high, loByte_eq_low]

theorem pushWord_lowFirst {s : State} (h : s.cfg.phwOrder = .lowFirst) (w : Word) :
    s.pushWord w = (s.push .push1 (low w)).push .push2 (high w) := by
  simp only [State.pushWord, h, hiByte_eq_high, loByte_eq_low]

/-- Settles O39: one push of the status image; two pushes of the word's bytes in the order of D8. -/
theorem pushStatusAndPushWord : Obligations.PushStatusAndPushWord := by
  intro w s hwf
  have hphp := completesStoring_push (i := .php) (s := s) hwf 0x08 rfl rfl rfl rfl
  rw [image_eq] at hphp
  have himm : Retires (.phwImmW w) 0xF4 3 5 s (s.pushWord w) := ⟨rfl, rfl, rfl, rfl⟩
  have habs : Retires (.phwAbs w) 0xFC 3 7 s (s.pushWord (s.sourceWord w)) := ⟨rfl, rfl, rfl, rfl⟩
  have hsource : s.sourceWord w = sourceOperand s w := wordOf_eq_word _ _
  rw [hsource] at habs
  refine ⟨hphp, fun horder => ?_, fun horder => ?_⟩
  · rw [pushWord_highFirst horder] at himm habs
    exact ⟨himm.pushTwo hwf, habs.pushTwo hwf⟩
  · rw [pushWord_lowFirst horder] at himm habs
    exact ⟨himm.pushTwo hwf, habs.pushTwo hwf⟩

theorem callPush_eq_returnCells (s : State) :
    s.callPush (s.pc + 2) = (storeAll s (returnCells s)).setSp (below s 2) := by
  have hpc : s.pc + 2 = pcAfter s 2 := pc_add_eq_pcAfter s 2
  rw [callPush_eq_storeAll, hpc]
  rfl

/-- A call whose target is read, if at all, from the bytes stored. -/
theorem calls_of_exec {i : Instr} {op : Byte} {len cyc : Nat} {s : State}
    {target target' : State → Word} (hop : i.opcode = op) (hlen : opcodeLength op = len)
    (hcyc : opcodeCycles op = cyc) (hexec : exec i s = call s target)
    (htarget : target ((storeAll s (returnCells s)).setSp (below s 2)) =
      target' (storeAll s (returnCells s))) (hwf : s.mem.wf = true) :
    Calls i op len cyc s target' := by
  rw [call_eq, callPush_eq_returnCells, htarget] at hexec
  exact ⟨storeAll s (returnCells s),
    wrote_storeAll hwf (two_pushes_differ .push1 .push2 _ _),
    completes_of_opcode hop hlen hcyc hexec⟩

/-- Settles O36: the return address pushed, then the operand, the pointer or the distance. -/
theorem callsPushTheReturnAddress : Obligations.CallsPushTheReturnAddress := by
  intro w s hwf
  have hx : (storeAll s (returnCells s)).x = s.x := by rw [storeAll_eq]
  have habs : exec (.jsrAbs w) s = call s (fun _ => w) := rfl
  have hind : exec (.jsrAbsInd w) s = call s (targetAbsInd w) := rfl
  have hxind : exec (.jsrAbsXInd w) s = call s (targetAbsXInd w) := rfl
  have hrel : exec (.bsr w) s = call s (fun _ => targetWrel w s) := rfl
  refine ⟨calls_of_exec rfl rfl rfl habs rfl hwf, calls_of_exec rfl rfl rfl hind ?ind hwf,
    calls_of_exec rfl rfl rfl hxind ?xind hwf, calls_of_exec rfl rfl rfl hrel ?rel hwf⟩
  case ind => exact targetAbsInd_eq w _
  case xind =>
    rw [targetAbsXInd_eq, State.setSp_x, hx]
    rfl
  case rel => exact targetWrel_eq_ofInt w s

/-! ## Traps -/

/-- D after trap entry in the model is a value that D4 allows. -/
theorem trapD_trapFlags (s : State) : TrapD s (trapFlags s.cfg.trapClearsD s.tick s.p).d := by
  constructor <;> intro h <;> simp only [trapFlags, h]

theorem trapEntry_eq_trapped (s : State) (vector ret : Word) (b : Bool) :
    s.trapEntry vector ret b =
      trapped s (storeAll s (trapCells s ret b)) vector
        (trapFlags s.cfg.trapClearsD s.tick s.p).d := by
  have hvector : ((storeAll s (trapCells s ret b)).setSp (below s 3)).vectorAt vector =
      word ((storeAll s (trapCells s ret b)).read .vectorHi (vector + 1))
        ((storeAll s (trapCells s ret b)).read .vectorLo vector) := wordOf_eq_word _ _
  rw [State.trapEntry, pushTrapFrame_eq_storeAll, hvector]
  rfl

theorem wrote_trapCells {s : State} (hwf : s.mem.wf = true) (ret : Word) (b : Bool) :
    Wrote s (storeAll s (trapCells s ret b)) (trapCells s ret b) :=
  wrote_storeAll hwf (three_pushes_differ .push1 .push2 .push3 _ _ _)

/-- Settles O45: trap entry through $FFFE with the address after BRK's two bytes. -/
theorem breakTakesTheTrap : Obligations.BreakTakesTheTrap := by
  intro sig s hwf
  have hpc : s.pc + 2 = pcAfter s 2 := pc_add_eq_pcAfter s 2
  have hexec : exec (.brk sig) s = .next (s.trapEntry irqVector (s.pc + 2) true) := rfl
  rw [hpc, trapEntry_eq_trapped] at hexec
  exact ⟨_, trapD_trapFlags s, _, wrote_trapCells hwf _ true,
    completes_of_opcode (op := 0x00) rfl rfl rfl hexec⟩

/-- RTI, whole, R323. -/
theorem trapReturn_eq (s : State) :
    s.trapReturn =
      let p := loadP s.p s.cfg.pullPWritesE (s.read .pull1 (above s 1))
      { s with
        p := p
        sp := upFrom p.e (above s 1) 2
        pc := word (s.read .pull3 (upFrom p.e (above s 1) 2))
          (s.read .pull2 (upFrom p.e (above s 1) 1)) } := by
  have hafter := afterReturnPull_eq_above s.pullP
  have hthird : s.pullP.incSp.pulled .pull3 = s.read .pull3 s.pullP.afterReturnPull.sp := rfl
  have hsecond : s.pullP.pulled .pull2 = s.pullP.read .pull2 (above s.pullP 1) :=
    pulled_eq s.pullP .pull2
  have hstate : s.trapReturn = (s.pullP.afterReturnPull).setPc
      (wordOf (s.pullP.incSp.pulled .pull3) (s.pullP.pulled .pull2)) := rfl
  rw [hstate, hthird, hsecond, hafter, wordOf_eq_word, pullP_eq]
  rfl

/-- Settles O46: the three pulls, the last two under the E just loaded. -/
theorem returnFromInterruptRestores : Obligations.ReturnFromInterruptRestores := by
  intro s
  have hexec : exec .rti s = .next s.trapReturn := rfl
  rw [trapReturn_eq] at hexec
  exact completes_of_opcode (op := 0x40) rfl rfl rfl hexec

end Sys2Proof.Claims
end
section
/-! PROOFS. What is pushed comes back: registers and flags by their pulls, a call by RTS, a trap by RTI, and
the word of PHW as a pointer, where the stack is RAM and no other master acts. -/

namespace Sys2Proof.Claims

open Sys2Proof.Machine

/-! ## Up again from below -/

theorem upFrom_below {s : State} {j k m : Nat} (hm : m + j = k) (hk : k ≤ 256) :
    upFrom s.p.e (below s k) j = below s m := by
  apply BitVec.eq_of_toNat_eq
  rw [upFrom_toNat, below_toNat, below_toNat]
  split <;> omega

theorem upFrom_below_all {s : State} {k : Nat} (hk : k ≤ 256) :
    upFrom s.p.e (below s k) k = s.sp := by
  rw [upFrom_below (Nat.zero_add k) hk, below_zero]

theorem above_of_sp_below {s u : State} {j k m : Nat} (hsp : u.sp = below s k)
    (he : u.p.e = s.p.e) (hm : m + j = k) (hk : k ≤ 256) : above u j = below s m := by
  rw [above, hsp, he, upFrom_below hm hk]

theorem above_of_sp_below_all {s u : State} {k : Nat} (hsp : u.sp = below s k)
    (he : u.p.e = s.p.e) (hk : k ≤ 256) : above u k = s.sp := by
  rw [above, hsp, he, upFrom_below_all hk]

theorem word_high_low (w : Word) : word (high w) (low w) = w := by
  rw [← hiByte_eq_high, ← loByte_eq_low, ← wordOf_eq_word, wordOf_hi_lo]

theorem pcAfter_of_pc {s u : State} {j : Nat} (h : u.pc = pcAfter s j) (k : Nat) :
    pcAfter u k = pcAfter s (j + k) := by
  rw [pcAfter, h, pcAfter, pcAfter]
  bv_omega

theorem loadP_image {p q : Flags} (he : p.e = q.e) (writesE b : Bool) :
    loadP p writesE (image q b) = q := by
  have hsame : p.load writesE (q.image b) = q.load writesE (q.image b) := by
    simp only [Flags.load, he]
  rw [← load_eq_loadP, ← image_eq, hsame, Flags.load_image]

/-! ## One push, one pull -/

/-- `u` is ready to pull the byte `v` that was pushed in `s`, whatever its registers hold. -/
structure AfterPush (s u : State) (v : Byte) : Prop where
  sp_eq : u.sp = below s 1
  pc_eq : u.pc = pcAfter s 1
  e_eq : u.p.e = s.p.e
  read_eq : u.read .pull1 s.sp = v

theorem afterPush_of_retire {s t : State} {v : Byte} (hwf : s.mem.wf = true)
    (hram : s.answer s.sp = .ram) (hdma : s.dma = [])
    (h : retire s 1 (s.push .push1 v) = .next t) : AfterPush s t v := by
  rw [retire_push] at h
  obtain rfl := Host.Outcome.next.inj h
  exact ⟨rfl, rfl, rfl, State.read_write_same hram hwf v (by simp [hdma])⟩

/-- What each of the five pulls then does. -/
theorem AfterPush.pulls {s u : State} {v : Byte} (h : AfterPush s u v) :
    exec .pla u = .next { u with a := v, p := nz u.p v, sp := s.sp, pc := pcAfter s 2 } ∧
    exec .plx u = .next { u with x := v, p := nz u.p v, sp := s.sp, pc := pcAfter s 2 } ∧
    exec .ply u = .next { u with y := v, p := nz u.p v, sp := s.sp, pc := pcAfter s 2 } ∧
    exec .plz u = .next { u with z := v, p := nz u.p v, sp := s.sp, pc := pcAfter s 2 } ∧
    exec .plp u = .next { u with
      p := loadP u.p u.cfg.pullPWritesE v, sp := s.sp, pc := pcAfter s 2 } := by
  have hsp : above u 1 = s.sp := above_of_sp_below_all h.sp_eq h.e_eq (by decide)
  have hpulls := pullsLoadTheRegister u
  rw [hsp, h.read_eq, pcAfter_of_pc h.pc_eq] at hpulls
  obtain ⟨⟨_, _, _, hpla⟩, ⟨_, _, _, hplx⟩, ⟨_, _, _, hply⟩, ⟨_, _, _, hplz⟩, _, _, _, hplp⟩ := hpulls
  exact ⟨hpla, hplx, hply, hplz, hplp⟩

/-- Settles O47: the pull's address is the push's, and its byte the one pushed. -/
theorem pushThenPullRestores : Obligations.PushThenPullRestores := by
  intro s hwf hram hdma
  have hpush {t : State} {v : Byte} (h : retire s 1 (s.push .push1 v) = .next t) :
      AfterPush s t v := afterPush_of_retire hwf hram hdma h
  refine ⟨?pha, ?phx, ?phy, ?phz, ?php⟩
  case pha =>
    intro t v p h he
    obtain ⟨hsp, hpc, _, hread⟩ := hpush (v := s.a) h
    obtain ⟨hpla, _⟩ := AfterPush.pulls (u := { t with a := v, p := p }) ⟨hsp, hpc, he, hread⟩
    exact hpla
  case phx =>
    intro t v p h he
    obtain ⟨hsp, hpc, _, hread⟩ := hpush (v := s.x) h
    obtain ⟨_, hplx, _⟩ := AfterPush.pulls (u := { t with x := v, p := p }) ⟨hsp, hpc, he, hread⟩
    exact hplx
  case phy =>
    intro t v p h he
    obtain ⟨hsp, hpc, _, hread⟩ := hpush (v := s.y) h
    obtain ⟨_, _, hply, _⟩ :=
      AfterPush.pulls (u := { t with y := v, p := p }) ⟨hsp, hpc, he, hread⟩
    exact hply
  case phz =>
    intro t v p h he
    obtain ⟨hsp, hpc, _, hread⟩ := hpush (v := s.z) h
    obtain ⟨_, _, _, hplz, _⟩ :=
      AfterPush.pulls (u := { t with z := v, p := p }) ⟨hsp, hpc, he, hread⟩
    exact hplz
  case php =>
    intro t p h he
    obtain ⟨hsp, hpc, _, hread⟩ := hpush (v := s.p.image true) h
    rw [image_eq] at hread
    obtain ⟨_, _, _, _, hplp⟩ := AfterPush.pulls (u := { t with p := p }) ⟨hsp, hpc, he, hread⟩
    rw [hplp, loadP_image he]

/-! ## Calls -/

theorem call_cases {i : Instr} {s t : State} (hi : i.mnemonic = "JSR" ∨ i.mnemonic = "BSR")
    (h : exec i s = .next t) :
    ∃ target, t = { storeAll s (returnCells s) with sp := below s 2, pc := target } := by
  have hcall {target : State → Word} (h : call s target = .next t) :
      ∃ target, t = { storeAll s (returnCells s) with sp := below s 2, pc := target } := by
    rw [call_eq, callPush_eq_returnCells] at h
    exact ⟨_, (Host.Outcome.next.inj h).symm⟩
  cases i with
  | jsrAbs w => exact hcall (target := fun _ => w) h
  | jsrAbsInd w => exact hcall (target := targetAbsInd w) h
  | jsrAbsXInd w => exact hcall (target := targetAbsXInd w) h
  | bsr w => exact hcall (target := fun _ => targetWrel w s) h
  | _ => exact absurd hi (of_decide_eq_false rfl)

theorem storeAll_of_no_dma {s : State} (hdma : s.dma = []) (cells : List StoredByte) :
    storeAll s cells = { s with
      mem := (storeAll s cells).mem, bus := (storeAll s cells).bus } := by
  have h := storeAll_eq s cells
  have hempty : s.dma.filter (outlives cells) = s.dma := by rw [hdma, List.filter_nil]
  rw [hempty] at h
  rw [h]

/-- Settles O48: RTS reads the two bytes the call stored, and adds the one the call left out. -/
theorem callThenReturnComesBack : Obligations.CallThenReturnComesBack := by
  intro i s t hwf hram hdma hi hexec
  obtain ⟨target, rfl⟩ := call_cases hi hexec
  generalize ht : ({ storeAll s (returnCells s) with sp := below s 2, pc := target } : State) = t
  have hread {c : StoredByte} (hc : c ∈ returnCells s) (hr : s.answer c.2.1 = .ram)
      (slot : BusSlot) : t.read slot c.2.1 = c.2.2 := by
    rw [← ht]
    exact read_storeAll_mem hwf hdma (two_pushes_differ .push1 .push2 _ _) hc hr slot
  have htop : s.answer s.sp = .ram := below_zero s ▸ hram 0 (by decide)
  have hhigh : t.read .pull2 s.sp = high (pcAfter s 2) :=
    hread (c := (.push1, s.sp, high (pcAfter s 2))) List.mem_cons_self htop .pull2
  have hlow : t.read .pull1 (below s 1) = low (pcAfter s 2) :=
    hread (c := (.push2, below s 1, low (pcAfter s 2)))
      (List.mem_cons_of_mem _ List.mem_cons_self) (hram 1 (by decide)) .pull1
  have hsp : t.sp = below s 2 := congrArg State.sp ht.symm
  have he : t.p.e = s.p.e :=
    (congrArg (fun u => u.p.e) ht.symm).trans (congrArg Flags.e (storeAll_p s (returnCells s)))
  have hsp1 : above t 1 = below s 1 := above_of_sp_below hsp he rfl (by decide)
  have hsp2 : above t 2 = s.sp := above_of_sp_below_all hsp he (by decide)
  obtain ⟨⟨_, _, _, hrts⟩, _⟩ := returnsPullTheAddress 0 t
  have hpc : BitVec.ofNat 16 ((pcAfter s 2).toNat + 1) = pcAfter s 3 := by
    rw [pcAfter, pcAfter]
    bv_omega
  rw [hrts, hsp1, hsp2, hhigh, hlow, word_high_low, hpc, ← ht, storeAll_of_no_dma hdma]

/-! ## Traps -/

/-- RTI after trap entry, R323, R352: it reads the three bytes stored, lowest first. -/
theorem trapReturn_trapEntry {s : State} (hwf : s.mem.wf = true) (hram : StackInRam s 3)
    (hdma : s.dma = []) (vector ret : Word) (b : Bool) :
    (s.trapEntry vector ret b).trapReturn = { s with
      mem := (s.trapEntry vector ret b).mem
      bus := (s.trapEntry vector ret b).bus
      pc := ret } := by
  generalize ht : s.trapEntry vector ret b = t
  rw [trapEntry_eq_trapped] at ht
  have hread {c : StoredByte} (hc : c ∈ trapCells s ret b) (hr : s.answer c.2.1 = .ram)
      (slot : BusSlot) : t.read slot c.2.1 = c.2.2 := by
    rw [← ht]
    exact read_storeAll_mem hwf hdma (three_pushes_differ .push1 .push2 .push3 _ _ _) hc hr slot
  have htop : s.answer s.sp = .ram := below_zero s ▸ hram 0 (by decide)
  have hhigh : t.read .pull3 s.sp = high ret :=
    hread (c := (.push1, s.sp, high ret)) (by simp [trapCells]) htop .pull3
  have hlow : t.read .pull2 (below s 1) = low ret :=
    hread (c := (.push2, below s 1, low ret)) (by simp [trapCells]) (hram 1 (by decide)) .pull2
  have hflags : t.read .pull1 (below s 2) = image s.p b :=
    hread (c := (.push3, below s 2, image s.p b)) (by simp [trapCells]) (hram 2 (by decide)) .pull1
  have hsp : t.sp = below s 3 := congrArg State.sp ht.symm
  have he : t.p.e = s.p.e := congrArg (fun u => u.p.e) ht.symm
  have hsp1 : above t 1 = below s 2 := above_of_sp_below hsp he rfl (by decide)
  have hup1 : upFrom s.p.e (below s 2) 1 = below s 1 := upFrom_below rfl (by decide)
  have hup2 : upFrom s.p.e (below s 2) 2 = s.sp := upFrom_below_all (by decide)
  rw [trapReturn_eq, hsp1, hflags, loadP_image he]
  simp only [hup1, hup2, hhigh, hlow, word_high_low]
  rw [← ht, trapped, storeAll_of_no_dma hdma]

/-- Settles O49: trap entry and RTI undo each other, and BRK is a trap entry with pc0 + 2. -/
theorem trapThenReturnResumes : Obligations.TrapThenReturnResumes := by
  intro vector ret b sig s hwf hram hdma
  have hrti (t : State) : exec .rti t = .next t.trapReturn := rfl
  have hbrk : exec (.brk sig) s = .next (s.trapEntry irqVector (s.pc + 2) true) := rfl
  have hpc : s.pc + 2 = pcAfter s 2 := pc_add_eq_pcAfter s 2
  refine ⟨?entry, fun t hexec => ?brk⟩
  case entry => rw [hrti, trapReturn_trapEntry hwf hram hdma]
  case brk =>
    rw [hbrk, hpc] at hexec
    rw [hrti, ← Host.Outcome.next.inj hexec, trapReturn_trapEntry hwf hram hdma]

/-! ## PHW and (D,SP),Y -/

/-- Settles O50: the two bytes above SP are the word's, low byte first. -/
theorem pushedWordServesStackRelative : Obligations.PushedWordServesStackRelative := by
  intro w s t hwf hram hdma horder hwrap hexec
  have hphw : exec (.phwImmW w) s = retire s 3 (s.pushWord w) := rfl
  have hpc3 : s.pc + 3 = pcAfter s 3 := pc_add_eq_pcAfter s 3
  rw [hphw, pushWord_highFirst horder, push_push_eq_storeAll, retire, hpc3] at hexec
  have ht := Host.Outcome.next.inj hexec
  have hread {c : StoredByte} (hc : c ∈ [(.push1, s.sp, high w), (.push2, below s 1, low w)])
      (hr : s.answer c.2.1 = .ram) (slot : BusSlot) : t.read slot c.2.1 = c.2.2 := by
    rw [← ht]
    exact read_storeAll_mem hwf hdma (two_pushes_differ .push1 .push2 _ _) hc hr slot
  have htop : s.answer s.sp = .ram := below_zero s ▸ hram 0 (by decide)
  have hhigh : t.read .pointerHi s.sp = high w :=
    hread (c := (.push1, s.sp, high w)) (by simp) htop .pointerHi
  have hlow : t.read .pointerLo (below s 1) = low w :=
    hread (c := (.push2, below s 1, low w)) (by simp) (hram 1 (by decide)) .pointerLo
  have hsp : t.sp = below s 2 := congrArg State.sp ht.symm
  have hpc : t.pc = pcAfter s 3 := congrArg State.pc ht.symm
  rw [storeAll_of_no_dma hdma] at ht
  have he : t.p.e = s.p.e := congrArg (fun u => u.p.e) ht.symm
  have hcfg : t.cfg = s.cfg := by rw [← ht]; rfl
  have hy : t.y = s.y := by rw [← ht]; rfl
  have hup1 : upFrom s.p.e (below s 2) 1 = below s 1 := upFrom_below rfl (by decide)
  have hup2 : upFrom s.p.e (below s 2) 2 = s.sp := upFrom_below_all (by decide)
  have hone : (1 : Byte).toNat = 1 := rfl
  have hea : eaSpIndY 1 t = BitVec.ofNat 16 (w.toNat + s.y.toNat) := by
    rw [eaSpIndY_eq, hsp, hy, he, hcfg, hwrap, Bool.and_true, hone, hup1, hup2, pointerWord, hhigh,
      hlow, word_high_low, add_zext16]
  have hlda : Completes (.ldaSpIndY 1) 0xE2 2 6 t { t with
      a := t.dataAt (eaSpIndY 1 t)
      p := nz t.p (t.dataAt (eaSpIndY 1 t))
      pc := pcAfter t 2 } := Retires.putA ⟨rfl, rfl, rfl, rfl⟩
  rw [hea, pcAfter_of_pc hpc] at hlda
  obtain ⟨_, _, _, hexec⟩ := hlda
  exact ⟨_, rfl, hexec⟩

end Sys2Proof.Claims
end
section
/-! PROOFS. The laws of 42_arithmetic.md section 8, on the accumulator and on a byte or word of RAM. -/

namespace Sys2Proof.Claims

open Sys2Proof.Machine

/-! ## On the accumulator -/

/-- R195: SBC is ADC of the complement. -/
theorem sbc_eq_adc_complement {s : State} (hd : s.p.d = false) (m : Byte) :
    s.sbc m = s.adc (m ^^^ 0xFF) := by
  rw [State.sbc_eq, State.adc_eq, sbcSum, adcSum, hd, if_neg Bool.false_ne_true,
    if_neg Bool.false_ne_true]

theorem exec_sbcImm {s : State} (hd : s.p.d = false) (m : Byte) :
    exec (.sbcImm m) s = .next (subtracted s 2 m) := by
  obtain ⟨_, ⟨_, _, _, hsbc⟩, _⟩ := binaryAddAndSubtract 0 m 0 s hd
  exact hsbc

theorem exec_adcImm {s : State} (hd : s.p.d = false) (m : Byte) :
    exec (.adcImm m) s = .next (added s 2 m) := by
  obtain ⟨⟨⟨_, _, _, hadc⟩, _⟩, _⟩ := binaryAddAndSubtract 0 m 0 s hd
  exact hadc

theorem exec_cmpImm (s : State) (m : Byte) :
    exec (.cmpImm m) s = .next (compared s 2 s.a m) := by
  obtain ⟨⟨⟨_, _, _, hcmp⟩, _⟩, _⟩ := comparesSetCarryAndSign 0 m 0 s
  exact hcmp

/-- With no borrow to take off, SBC and CMP form the same difference. -/
theorem subtracted_flags_eq_compared {s : State} (hc : s.p.c = true) (m : Byte) :
    (subtracted s 2 m).p.c = (compared s 2 s.a m).p.c ∧
      (subtracted s 2 m).p.zf = (compared s 2 s.a m).p.zf ∧
      (subtracted s 2 m).p.n = (compared s 2 s.a m).p.n := by
  have ha := s.a.isLt
  have hm := m.isLt
  have hdiff : (BitVec.ofInt 8 ((s.a.toNat : Int) - m.toNat - (1 - s.p.c.toNat))).toNat =
      (s.a.toNat + 256 - m.toNat) % 256 := by
    rw [BitVec.toNat_ofInt, hc, Bool.toNat_true]
    omega
  refine ⟨?carry, ?zero, ?sign⟩
  case carry =>
    simp only [subtracted, compared, hc, Bool.toNat_true, decide_eq_decide]
    omega
  case zero =>
    simp only [subtracted, compared, nz, hdiff, decide_eq_decide]
    omega
  case sign => simp only [subtracted, compared, nz, hdiff]

theorem added_zero {s : State} (hc : s.p.c = false) : (added s 2 0).a = s.a := by
  simp [added, hc]

theorem subtracted_zero {s : State} (hc : s.p.c = true) : (subtracted s 2 0).a = s.a := by
  simp [subtracted, hc]

theorem rolOp_of_clear (m : Byte) : rolOp false m = aslOp false m := by
  revert m
  decide

theorem rorOp_of_clear (m : Byte) : rorOp false m = lsrOp false m := by
  revert m
  decide

theorem rorOp_rolOp : ∀ (c : Bool) (m : Byte), rorOp (rolOp c m).2 (rolOp c m).1 = (m, c) := by
  decide

theorem rolOp_rorOp : ∀ (c : Bool) (m : Byte), rolOp (rorOp c m).2 (rorOp c m).1 = (m, c) := by
  decide

/-- A shift of A by one operation after another that it undoes. -/
theorem shiftA_shiftA {f g : Bool → Byte → Byte × Bool}
    (hinverse : ∀ c m, g (f c m).2 (f c m).1 = (m, c)) {s t u : State}
    (ht : retire s 1 (s.shiftA f) = .next t) (hu : retire t 1 (t.shiftA g) = .next u) :
    u.a = s.a ∧ u.p.c = s.p.c := by
  obtain rfl := Host.Outcome.next.inj ht
  obtain rfl := Host.Outcome.next.inj hu
  have h := hinverse s.p.c s.a
  exact ⟨congrArg Prod.fst h, congrArg Prod.snd h⟩

/-- Settles O51: each law from the sum, difference or shift its two sides compute. -/
theorem arithmeticLaws : Obligations.ArithmeticLaws := by
  intro m s t u
  refine ⟨fun hd => ?complement, fun hd hc ht hu => ?compare, fun hd hc ht => ?addZero,
    fun hd hc ht => ?subZero, fun ht hu => ?neg, fun hc => ⟨?asl, ?lsr⟩,
    shiftA_shiftA rorOp_rolOp, shiftA_shiftA rolOp_rorOp⟩
  case complement => exact congrArg (retire s 2) (sbc_eq_adc_complement hd m)
  case compare =>
    rw [exec_sbcImm hd] at ht
    rw [exec_cmpImm] at hu
    rw [← Host.Outcome.next.inj ht, ← Host.Outcome.next.inj hu]
    obtain ⟨hcarry, hzero, hsign⟩ := subtracted_flags_eq_compared hc m
    exact ⟨hcarry, hzero, hsign, rfl, rfl⟩
  case addZero =>
    rw [exec_adcImm hd] at ht
    rw [← Host.Outcome.next.inj ht, added_zero hc]
  case subZero =>
    rw [exec_sbcImm hd] at ht
    rw [← Host.Outcome.next.inj ht, subtracted_zero hc]
  case neg =>
    have hneg (s : State) : exec .neg s = retire s 1 (s.putA (0 - s.a)) := rfl
    rw [hneg] at ht hu
    obtain rfl := Host.Outcome.next.inj ht
    obtain rfl := Host.Outcome.next.inj hu
    exact (by simp : 0 - (0 - s.a) = s.a)
  case asl =>
    have hshift : s.shiftA aslOp = s.shiftA rolOp := by
      rw [State.shiftA, State.shiftA, hc, rolOp_of_clear]
    exact congrArg (retire s 1) hshift
  case lsr =>
    have hshift : s.shiftA lsrOp = s.shiftA rorOp := by
      rw [State.shiftA, State.shiftA, hc, rorOp_of_clear]
    exact congrArg (retire s 1) hshift

/-! ## In memory -/

/-- Of memory, other masters' writes and the platform, `t` is what stores in `s` leave, no other master
being about. -/
structure LeavesStored (s t : State) (cells : List StoredByte) : Prop where
  mem_eq : t.mem = (storeAll s cells).mem
  dma_eq : t.dma = []
  cfg_eq : t.cfg = s.cfg

section
variable {s t : State} {cells : List StoredByte}

theorem LeavesStored.wf (h : LeavesStored s t cells) (hwf : s.mem.wf = true) :
    t.mem.wf = true := by
  rw [h.mem_eq]
  exact wf_storeAll hwf cells

theorem LeavesStored.answer_eq (h : LeavesStored s t cells) (a : Word) :
    t.answer a = s.answer a := by
  rw [State.answer, h.cfg_eq, State.answer]

theorem LeavesStored.byteAt_other (h : LeavesStored s t cells) {a : Word}
    (ha : ∀ c ∈ cells, c.2.1 ≠ a) : byteAt t a = byteAt s a := by
  rw [← byteAt_storeAll_other ha s, byteAt, h.mem_eq, byteAt]

theorem LeavesStored.byteAt_mem (h : LeavesStored s t cells) (hwf : s.mem.wf = true)
    (hdiff : cells.Pairwise fun c e => c.2.1 ≠ e.2.1) {c : StoredByte} (hc : c ∈ cells)
    (hram : s.answer c.2.1 = .ram) : byteAt t c.2.1 = c.2.2 := by
  have hheld := byteAt_storeAll_mem hwf hdiff hc
  rw [if_pos hram] at hheld
  rw [byteAt, h.mem_eq]
  exact hheld

theorem leavesStored_writeData {len ea : Word} {v : Byte} {p : Flags} (hdma : s.dma = [])
    (h : retire s len ((s.writeData ea v).setP p) = .next t) :
    LeavesStored s t [(.writeLo, ea, v)] := by
  obtain rfl := Host.Outcome.next.inj h
  exact ⟨rfl, State.dmaAfter_nil hdma .writeLo ea, rfl⟩

theorem leavesStored_writeWord {len lo hi w : Word} {p : Flags} (hdma : s.dma = [])
    (h : retire s len ((s.writeWord lo hi w).setP p) = .next t) :
    LeavesStored s t [(.writeLo, lo, low w), (.writeHi, hi, high w)] := by
  rw [writeWord_eq_storeAll, storeAll_of_no_dma hdma] at h
  obtain rfl := Host.Outcome.next.inj h
  exact ⟨rfl, hdma, rfl⟩

end

theorem byteAt_of_one_store {s t : State} {ea : Word} {v : Byte}
    (h : LeavesStored s t [(.writeLo, ea, v)]) (hwf : s.mem.wf = true)
    (hram : s.answer ea = .ram) : byteAt t ea = v :=
  h.byteAt_mem hwf (List.pairwise_singleton _ _) List.mem_cons_self hram

/-- Bytes stored and then stored again as they were leave every byte as it was. -/
theorem byteAt_of_restored {s t u : State} {cells old : List StoredByte}
    (ht : LeavesStored s t cells) (hu : LeavesStored t u old) (hwf : s.mem.wf = true)
    (hsame : old.map (fun c => c.2.1) = cells.map (fun c => c.2.1))
    (hdiff : old.Pairwise fun c e => c.2.1 ≠ e.2.1) (hram : ∀ c ∈ old, s.answer c.2.1 = .ram)
    (hold : ∀ c ∈ old, c.2.2 = byteAt s c.2.1) (a : Word) : byteAt u a = byteAt s a := by
  by_cases ha : a ∈ old.map (fun c => c.2.1)
  · obtain ⟨c, hc, rfl⟩ := List.mem_map.mp ha
    have hram' := (ht.answer_eq c.2.1).trans (hram c hc)
    rw [hu.byteAt_mem (ht.wf hwf) hdiff hc hram', hold c hc]
  · have hold' : ∀ c ∈ old, c.2.1 ≠ a := fun c hc h => ha (List.mem_map.mpr ⟨c, hc, h⟩)
    rw [hsame] at ha
    have hcells : ∀ c ∈ cells, c.2.1 ≠ a := fun c hc h => ha (List.mem_map.mpr ⟨c, hc, h⟩)
    rw [hu.byteAt_other hold', ht.byteAt_other hcells]

theorem byteAt_inc_dec {w : Word} {s t u : State} (hwf : s.mem.wf = true) (hdma : s.dma = [])
    (hram : s.answer w = .ram) (ht : exec (.incAbs w) s = .next t)
    (hu : exec (.decAbs w) t = .next u) (a : Word) : byteAt u a = byteAt s a := by
  have hstored : LeavesStored s t [(.writeLo, w, s.dataAt w + 1)] :=
    leavesStored_writeData hdma ht
  have hback : LeavesStored t u [(.writeLo, w, t.dataAt w - 1)] :=
    leavesStored_writeData hstored.dma_eq hu
  have hread : t.dataAt w = s.dataAt w + 1 :=
    (read_eq_byteAt ((hstored.answer_eq w).trans hram) hstored.dma_eq .dataLo).trans
      (byteAt_of_one_store hstored hwf hram)
  have hbyte : t.dataAt w - 1 = byteAt s w := by
    rw [hread, BitVec.add_sub_cancel]
    exact read_eq_byteAt hram hdma .dataLo
  exact byteAt_of_restored hstored hback hwf rfl (List.pairwise_singleton _ _)
    (by simpa using hram) (by simpa using hbyte) a

theorem low_word (hi lo : Byte) : low (word hi lo) = lo := by
  rw [← loByte_eq_low, ← wordOf_eq_word, loByte_wordOf]

theorem high_word (hi lo : Byte) : high (word hi lo) = hi := by
  rw [← hiByte_eq_high, ← wordOf_eq_word, hiByte_wordOf]

theorem wordAt_eq_word {s : State} {lo hi : Word} (hlo : s.answer lo = .ram)
    (hhi : s.answer hi = .ram) (hdma : s.dma = []) :
    s.wordAt lo hi = word (byteAt s hi) (byteAt s lo) := by
  rw [State.wordAt, read_eq_byteAt hlo hdma, read_eq_byteAt hhi hdma, wordOf_eq_word]

theorem byteAt_inw_dew {d : Byte} {s t u : State} (hwf : s.mem.wf = true) (hdma : s.dma = [])
    (hlo : s.answer (eaBp d s) = .ram) (hhi : s.answer (eaBpNext d s) = .ram)
    (ht : exec (.inw d) s = .next t) (hu : exec (.dew d) t = .next u) (a : Word) :
    byteAt u a = byteAt s a := by
  have hne := eaBp_ne_eaBpNext d s
  have hinw (s : State) : exec (.inw d) s = retire s 2 (s.putWord (eaBp d s) (eaBpNext d s)
      (s.wordAt (eaBp d s) (eaBpNext d s) + 1)) := rfl
  have hdew (s : State) : exec (.dew d) s = retire s 2 (s.putWord (eaBp d s) (eaBpNext d s)
      (s.wordAt (eaBp d s) (eaBpNext d s) - 1)) := rfl
  rw [hinw, State.putWord] at ht
  rw [hdew, State.putWord] at hu
  have hb : t.b = s.b := by
    rw [writeWord_eq_storeAll, storeAll_of_no_dma hdma] at ht
    obtain rfl := Host.Outcome.next.inj ht
    rfl
  have heaLo : eaBp d t = eaBp d s := by rw [eaBp, State.bp, hb, eaBp, State.bp]
  have heaHi : eaBpNext d t = eaBpNext d s := by rw [eaBpNext, State.bp, hb, eaBpNext, State.bp]
  have hstored := leavesStored_writeWord hdma ht
  have hback := leavesStored_writeWord hstored.dma_eq hu
  generalize hlo' : eaBp d s = lo at *
  generalize hhi' : eaBpNext d s = hi at *
  have hdiff (v w : Byte) : ([(.writeLo, lo, v), (.writeHi, hi, w)] : List StoredByte).Pairwise
      fun c e => c.2.1 ≠ e.2.1 := by simpa using hne
  have hbyteLo : byteAt t lo = low (s.wordAt lo hi + 1) :=
    hstored.byteAt_mem hwf (hdiff _ _) List.mem_cons_self hlo
  have hbyteHi : byteAt t hi = high (s.wordAt lo hi + 1) :=
    hstored.byteAt_mem hwf (hdiff _ _) (List.mem_cons_of_mem _ List.mem_cons_self) hhi
  have hword : t.wordAt lo hi - 1 = word (byteAt s hi) (byteAt s lo) := by
    rw [wordAt_eq_word ((hstored.answer_eq lo).trans hlo) ((hstored.answer_eq hi).trans hhi)
      hstored.dma_eq, hbyteLo, hbyteHi, word_high_low, BitVec.add_sub_cancel,
      wordAt_eq_word hlo hhi hdma]
  rw [heaLo, heaHi, hword, low_word, high_word] at hback
  exact byteAt_of_restored hstored hback hwf rfl (hdiff _ _) (by simp [hlo, hhi]) (by simp) a

theorem memAfter_congr {s t : State} (hm : s.mem = t.mem) (hc : s.cfg = t.cfg) (a : Word)
    (v : Byte) : s.memAfter a v = t.memAfter a v := by
  simp only [State.memAfter, State.answer, hm, hc]

/-- R220 by bytes: ASL of the low byte, then ROL of the high byte. -/
theorem aswOp_word (c : Bool) (hi lo : Byte) :
    low (aswOp c (word hi lo)).1 = (aslOp c lo).1 ∧
      high (aswOp c (word hi lo)).1 = (rolOp (aslOp c lo).2 hi).1 ∧
      (aswOp c (word hi lo)).2 = (rolOp (aslOp c lo).2 hi).2 := by
  have hlo := lo.isLt
  have hhi := hi.isLt
  have hword : (word hi lo).toNat = 256 * hi.toNat + lo.toNat := by
    rw [← wordOf_eq_word, wordOf_toNat]
  have hcarry : (decide (128 ≤ lo.toNat)).toNat = lo.toNat / 128 := by
    by_cases h : 128 ≤ lo.toNat
    · rw [decide_eq_true h, Bool.toNat_true]
      omega
    · rw [decide_eq_false h, Bool.toNat_false]
      omega
  rw [aswOp_eq, aslOp_eq_asl, rolOp_eq_rol, asl, rol, hword]
  refine ⟨?low, ?high, ?carry⟩
  case low =>
    apply BitVec.eq_of_toNat_eq
    simp only [low, BitVec.toNat_ofNat]
    omega
  case high =>
    apply BitVec.eq_of_toNat_eq
    simp only [high, BitVec.toNat_ofNat, hcarry]
    omega
  case carry =>
    simp only [decide_eq_decide]
    omega

theorem asl_rol_eq_asw {w : Word} {s t u v : State} (hdma : s.dma = [])
    (hlo : s.answer w = .ram) (hhi : s.answer (w + 1) = .ram)
    (ht : exec (.aslAbs w) s = .next t) (hu : exec (.rolAbs (w + 1)) t = .next u)
    (hv : exec (.asw w) s = .next v) : u.mem = v.mem ∧ u.p.c = v.p.c := by
  have hstored : LeavesStored s t [(.writeLo, w, (aslOp s.p.c (s.dataAt w)).1)] :=
    leavesStored_writeData hdma ht
  have htc : t.p.c = (aslOp s.p.c (s.dataAt w)).2 := by
    obtain rfl := Host.Outcome.next.inj ht
    rfl
  have humem : u.mem = t.memAfter (w + 1) (rolOp t.p.c (t.dataAt (w + 1))).1 := by
    obtain rfl := Host.Outcome.next.inj hu
    rfl
  have huc : u.p.c = (rolOp t.p.c (t.dataAt (w + 1))).2 := by
    obtain rfl := Host.Outcome.next.inj hu
    rfl
  have hnext : t.dataAt (w + 1) = byteAt s (w + 1) := by
    rw [State.dataAt, read_eq_byteAt ((hstored.answer_eq _).trans hhi) hstored.dma_eq]
    exact hstored.byteAt_other (by simp)
  have hfirst : s.dataAt w = byteAt s w := read_eq_byteAt hlo hdma .dataLo
  obtain ⟨hlowByte, hhighByte, hcarry⟩ := aswOp_word s.p.c (byteAt s (w + 1)) (byteAt s w)
  rw [← wordAt_eq_word hlo hhi hdma] at hlowByte hhighByte hcarry
  have hshift : exec (.asw w) s = retire s 3 (s.shiftWord aswOp w (w + 1)) := rfl
  rw [hshift, State.shiftWord, writeWord_eq_storeAll, hlowByte, hhighByte] at hv
  obtain rfl := Host.Outcome.next.inj hv
  rw [humem, huc, hnext, htc, hfirst, ← hcarry]
  have hmem : t.mem = (storeAll s [(.writeLo, w, (aslOp s.p.c (byteAt s w)).1)]).mem := by
    rw [hstored.mem_eq, hfirst]
  have hcfg : t.cfg = (storeAll s [(.writeLo, w, (aslOp s.p.c (byteAt s w)).1)]).cfg :=
    hstored.cfg_eq
  exact ⟨memAfter_congr hmem hcfg _ _, rfl⟩

theorem byteAt_tsb_trb {w : Word} {s t u : State} (hwf : s.mem.wf = true) (hdma : s.dma = [])
    (hram : s.answer w = .ram) (ht : exec (.tsbAbs w) s = .next t)
    (hu : exec (.trbAbs w) t = .next u) : byteAt u w = ~~~s.a &&& byteAt s w := by
  have hstored : LeavesStored s t [(.writeLo, w, s.a ||| s.dataAt w)] :=
    leavesStored_writeData hdma ht
  have hback : LeavesStored t u [(.writeLo, w, (t.a ^^^ 0xFF) &&& t.dataAt w)] :=
    leavesStored_writeData hstored.dma_eq hu
  have ha : t.a = s.a := by
    obtain rfl := Host.Outcome.next.inj ht
    rfl
  have hread : t.dataAt w = s.a ||| byteAt s w := by
    rw [State.dataAt, read_eq_byteAt ((hstored.answer_eq w).trans hram) hstored.dma_eq,
      byteAt_of_one_store hstored hwf hram, State.dataAt, read_eq_byteAt hram hdma]
  have hnot : s.a ^^^ 0xFF = ~~~s.a := BitVec.xor_allOnes
  rw [byteAt_of_one_store hback (hstored.wf hwf) ((hstored.answer_eq w).trans hram), ha, hread,
    hnot]
  ext k
  cases hk : s.a[k] <;> simp [hk]

/-- Settles O52: what the second instruction reads is what the first stored. -/
theorem memoryLaws : Obligations.MemoryLaws := by
  intro d w s t u v hwf hdma
  exact ⟨asl_rol_eq_asw hdma, byteAt_inc_dec hwf hdma, byteAt_inw_dew hwf hdma,
    byteAt_tsb_trb hwf hdma⟩

end Sys2Proof.Claims
end
section
/-! PROOFS. What every instruction does outside the registers: the bytes it stores, at the addresses and in
the cycles listed for it, and nothing else (R63, R67). -/

namespace Sys2Proof.Claims

open Sys2Proof.Machine

/-- The cycles in which an instruction stores, in their order (R67); one that is not listed stores
nothing. -/
def writeSlots (i : Instr) : List BusSlot :=
  match i with
  | .brk _ => [.push1, .push2, .push3]
  | .php | .pha | .phy | .phx | .phz => [.push1]
  | .jsrAbs _ | .jsrAbsInd _ | .jsrAbsXInd _ | .bsr _ | .phwImmW _ | .phwAbs _ => [.push1, .push2]
  | .dew _ | .inw _ | .asw _ | .row _ => [.writeLo, .writeHi]
  | .tsbBp _ | .aslBp _ | .rmb0 _ | .tsbAbs _ | .aslAbs _ | .trbBp _ | .aslBpX _ | .rmb1 _
    | .trbAbs _ | .aslAbsX _ | .rolBp _ | .rmb2 _ | .rolAbs _ | .rolBpX _ | .rmb3 _ | .rolAbsX _
    | .asrBp _ | .lsrBp _ | .rmb4 _ | .lsrAbs _ | .asrBpX _ | .lsrBpX _ | .rmb5 _ | .lsrAbsX _
    | .stzBp _ | .rorBp _ | .rmb6 _ | .rorAbs _ | .stzBpX _ | .rorBpX _ | .rmb7 _ | .rorAbsX _
    | .staBpXInd _ | .staSpIndY _ | .styBp _ | .staBp _ | .stxBp _ | .smb0 _ | .styAbsX _
    | .styAbs _ | .staAbs _ | .stxAbs _ | .staBpIndY _ | .staBpIndZ _ | .styBpX _ | .staBpX _
    | .stxBpY _ | .smb1 _ | .staAbsY _ | .stxAbsY _ | .stzAbs _ | .staAbsX _ | .stzAbsX _
    | .smb2 _ | .smb3 _ | .decBp _ | .smb4 _ | .decAbs _ | .decBpX _ | .smb5 _ | .decAbsX _
    | .incBp _ | .smb6 _ | .incAbs _ | .incBpX _ | .smb7 _ | .incAbsX _ =>
    [.writeLo]
  | _ => []

/-- `t` is `s` but for the registers and the flags. -/
def RegistersOnly (s t : State) : Prop :=
  t = { s with
    a := t.a, x := t.x, y := t.y, z := t.z, b := t.b, sp := t.sp, pc := t.pc, p := t.p }

/-- The instruction completes from `s`, and what it does outside the registers is to store bytes at its
addresses in its cycles. -/
def CompletesByStores (i : Instr) (s : State) : Prop :=
  ∃ t cells, exec i s = .next t ∧ cells.map (fun c => c.2.1) = writeAddresses i s ∧
    cells.map (fun c => c.1) = writeSlots i ∧ RegistersOnly (storeAll s cells) t

theorem completesByStores_call {i : Instr} {s : State} {target : State → Word}
    (hexec : exec i s = call s target) (haddr : writeAddresses i s = [s.sp, below s 1])
    (hslot : writeSlots i = [.push1, .push2]) : CompletesByStores i s := by
  rw [call_eq, callPush_eq_returnCells] at hexec
  exact ⟨_, returnCells s, hexec, haddr.symm, hslot.symm, rfl⟩

theorem completesByStores_pushWord {i : Instr} {s : State} {len w : Word}
    (hexec : exec i s = retire s len (s.pushWord w)) (haddr : writeAddresses i s = [s.sp, below s 1])
    (hslot : writeSlots i = [.push1, .push2]) : CompletesByStores i s := by
  cases horder : s.cfg.phwOrder with
  | highFirst =>
    rw [pushWord_highFirst horder, push_push_eq_storeAll] at hexec
    exact ⟨_, [(.push1, s.sp, high w), (.push2, below s 1, low w)], hexec, haddr.symm, hslot.symm,
      rfl⟩
  | lowFirst =>
    rw [pushWord_lowFirst horder, push_push_eq_storeAll] at hexec
    exact ⟨_, [(.push1, s.sp, low w), (.push2, below s 1, high w)], hexec, haddr.symm, hslot.symm,
      rfl⟩

theorem completesByStores_writeWord {i : Instr} {s : State} {len lo hi w : Word} {p : Flags}
    (hexec : exec i s = retire s len ((s.writeWord lo hi w).setP p))
    (haddr : writeAddresses i s = [lo, hi]) (hslot : writeSlots i = [.writeLo, .writeHi]) :
    CompletesByStores i s := by
  rw [writeWord_eq_storeAll] at hexec
  exact ⟨_, [(.writeLo, lo, low w), (.writeHi, hi, high w)], hexec, haddr.symm, hslot.symm, rfl⟩

theorem execInw_eq (d : Byte) (s : State) :
    exec (.inw d) s = retire s 2
      ((s.writeWord (eaBp d s) (eaBpNext d s) (s.wordAt (eaBp d s) (eaBpNext d s) + 1)).setP
        (s.p.nz16 (s.wordAt (eaBp d s) (eaBpNext d s) + 1))) := rfl

theorem execDew_eq (d : Byte) (s : State) :
    exec (.dew d) s = retire s 2
      ((s.writeWord (eaBp d s) (eaBpNext d s) (s.wordAt (eaBp d s) (eaBpNext d s) - 1)).setP
        (s.p.nz16 (s.wordAt (eaBp d s) (eaBpNext d s) - 1))) := rfl

theorem execShiftWord_eq {i : Instr} {s : State} {w : Word} (op : Bool → Word → Word × Bool)
    (hexec : exec i s = retire s 3 (s.shiftWord op w (w + 1))) :
    exec i s = retire s 3 ((s.writeWord w (w + 1) (op s.p.c (s.wordAt w (w + 1))).1).setP
      (s.p.shifted16 (op s.p.c (s.wordAt w (w + 1))))) := hexec

theorem completesByStores_brk (sig : Byte) (s : State) : CompletesByStores (.brk sig) s :=
  ⟨_, trapCells s (s.pc + 2) true, congrArg Host.Outcome.next (trapEntry_eq_trapped s _ _ _), rfl,
    rfl, rfl⟩

theorem completesByStores_rtn (n : Byte) (s : State) : CompletesByStores (.rtn n) s := by
  obtain ⟨_, hafter, hbefore⟩ := returnsPullTheAddress n s
  cases horder : s.cfg.rtnOrder with
  | pullThenAdjust =>
    obtain ⟨_, _, _, hexec⟩ := hafter horder
    exact ⟨_, [], hexec, rfl, rfl, rfl⟩
  | adjustThenPull =>
    obtain ⟨_, _, _, hexec⟩ := hbefore horder
    exact ⟨_, [], hexec, rfl, rfl, rfl⟩

/-- Every instruction, by how many bytes it stores and where. -/
theorem completesByStores (i : Instr) (s : State) : CompletesByStores i s := by
  cases i with
  | brk sig => exact completesByStores_brk sig s
  | rtn n => exact completesByStores_rtn n s
  | jsrAbs w => exact completesByStores_call (target := fun _ => w) rfl rfl rfl
  | jsrAbsInd w => exact completesByStores_call (target := targetAbsInd w) rfl rfl rfl
  | jsrAbsXInd w => exact completesByStores_call (target := targetAbsXInd w) rfl rfl rfl
  | bsr w => exact completesByStores_call (target := fun _ => targetWrel w s) rfl rfl rfl
  | phwImmW w | phwAbs w => exact completesByStores_pushWord rfl rfl rfl
  | php | pha | phy | phx | phz => exact ⟨_, [(.push1, _, _)], rfl, rfl, rfl, rfl⟩
  | dew d => exact completesByStores_writeWord (execDew_eq d s) rfl rfl
  | inw d => exact completesByStores_writeWord (execInw_eq d s) rfl rfl
  | asw w => exact completesByStores_writeWord (execShiftWord_eq aswOp rfl) rfl rfl
  | row w => exact completesByStores_writeWord (execShiftWord_eq rowOp rfl) rfl rfl
  | tsbBp d | aslBp d | rmb0 d | tsbAbs w | aslAbs w | trbBp d | aslBpX d | rmb1 d | trbAbs w
  | aslAbsX w | rolBp d | rmb2 d | rolAbs w | rolBpX d | rmb3 d | rolAbsX w | asrBp d | lsrBp d
  | rmb4 d | lsrAbs w | asrBpX d | lsrBpX d | rmb5 d | lsrAbsX w | stzBp d | rorBp d | rmb6 d
  | rorAbs w | stzBpX d | rorBpX d | rmb7 d | rorAbsX w | staBpXInd d | staSpIndY d | styBp d
  | staBp d | stxBp d | smb0 d | styAbsX w | styAbs w | staAbs w | stxAbs w | staBpIndY d
  | staBpIndZ d | styBpX d | staBpX d | stxBpY d | smb1 d | staAbsY w | stxAbsY w | stzAbs w
  | staAbsX w | stzAbsX w | smb2 d | smb3 d | decBp d | smb4 d | decAbs w | decBpX d | smb5 d
  | decAbsX w | incBp d | smb6 d | incAbs w | incBpX d | smb7 d | incAbsX w =>
    exact ⟨_, [(.writeLo, _, _)], rfl, rfl, rfl, rfl⟩
  | _ => exact ⟨_, [], rfl, rfl, rfl, rfl⟩

end Sys2Proof.Claims
end
section
/-! PROOFS. What follows for every instruction from the bytes it stores: it completes, it writes memory at
its own addresses only, and it leaves the environment's side of the state alone. -/

namespace Sys2Proof.Claims

open Sys2Proof.Machine

/-! ## No run stops, R341 -/

theorem exec_completes (i : Instr) (s : State) : ∃ t, exec i s = .next t := by
  obtain ⟨t, _, hexec, _⟩ := completesByStores i s
  exact ⟨t, hexec⟩

theorem cycle_completes (s : State) : ∃ t, s.cycle = .next t := by
  rw [State.cycle]
  split
  · exact ⟨_, rfl⟩
  · split
    · exact ⟨_, rfl⟩
    · split
      · exact ⟨_, rfl⟩
      · exact ⟨_, rfl⟩
      · obtain ⟨t, ht⟩ := exec_completes s.fetchInstr s
        exact ⟨_, congrArg (finishInstr s.fetchInstr s) ht⟩

theorem step_completes (s : State) : ∃ t, step s = .next t := by
  rw [step, State.cycleOrAbandon]
  split
  · obtain ⟨t, ht⟩ := cycle_completes (s.boundary.setResCut false)
    rw [ht]
    exact ⟨_, rfl⟩
  · obtain ⟨t, ht⟩ := cycle_completes s.boundary
    exact ⟨_, congrArg land ht⟩

theorem run_succ_of_next {s t : State} {n : Nat} (h : step s = .next t) :
    Sys2Proof.core.run (n + 1) s = Sys2Proof.core.run n t := by
  have hstep : Sys2Proof.core.step s = .next t := h
  simp only [Host.Core.run, hstep]

theorem safeFor (n : Nat) (s : State) : SafeFor n s := by
  induction n generalizing s with
  | zero => exact ⟨s, rfl⟩
  | succ n ih =>
    obtain ⟨t, ht⟩ := step_completes s
    obtain ⟨u, hu⟩ := ih t
    exact ⟨u, (run_succ_of_next ht).trans hu⟩

/-- Settles O11, from the completion of every instruction. -/
theorem nothingEverStops : Obligations.NothingEverStops :=
  ⟨exec_completes, step_completes, safeFor⟩

/-! ## What an instruction leaves alone -/

/-- The completion of an instruction, read from a state it is known to end in. -/
theorem exec_stores {i : Instr} {s t : State} (h : exec i s = .next t) :
    ∃ cells, cells.map (fun c => c.2.1) = writeAddresses i s ∧
      cells.map (fun c => c.1) = writeSlots i ∧ RegistersOnly (storeAll s cells) t := by
  obtain ⟨u, cells, hexec, haddr, hslot, honly⟩ := completesByStores i s
  obtain rfl := Host.Outcome.next.inj (hexec.symm.trans h)
  exact ⟨cells, haddr, hslot, honly⟩

theorem RegistersOnly.byteAt_eq {s t : State} (h : RegistersOnly s t) (a : Word) :
    byteAt t a = byteAt s a := by
  have hmem : t.mem = s.mem := by rw [h]
  rw [byteAt, hmem, byteAt]

/-- An address that is not RAM reads as before, whatever is stored there. -/
theorem byteAt_storeAll_not_ram {s : State} {a : Word} (hram : s.answer a ≠ .ram)
    (cells : List StoredByte) : byteAt (storeAll s cells) a = byteAt s a := by
  induction cells generalizing s with
  | nil => rfl
  | cons c cells ih =>
    rw [storeAll_cons, ih (s := s.write c.1 c.2.1 c.2.2) hram]
    by_cases haddr : c.2.1 = a
    · rw [byteAt, State.write_mem, haddr, State.memAfter_not_ram hram, byteAt]
    · exact byteAt_write_other haddr s c.1 c.2.2

/-- Settles O15. -/
theorem instructionStoresOnlyAtItsWriteCycles :
    Obligations.InstructionStoresOnlyAtItsWriteCycles := by
  intro i s t _ hexec
  obtain ⟨cells, haddr, _, honly⟩ := exec_stores hexec
  refine ⟨fun a ha => ?_, fun hnone => ?_, cells, haddr, ?_⟩
  · rw [honly.byteAt_eq]
    rcases ha with hnot | hram
    · rw [← haddr] at hnot
      exact byteAt_storeAll_other (fun c hc heq => hnot (List.mem_map.mpr ⟨c, hc, heq⟩)) s
    · exact byteAt_storeAll_not_ram hram cells
  · rw [hnone, List.map_eq_nil_iff] at haddr
    rw [honly, haddr]
    rfl
  · rw [honly, storeAll_eq]

/-- Settles O20. -/
theorem instructionLeavesThePinsAlone : Obligations.InstructionLeavesThePinsAlone := by
  intro i s t hexec
  obtain ⟨cells, _, _, honly⟩ := exec_stores hexec
  rw [honly, storeAll_eq]
  refine ⟨rfl, rfl, rfl, rfl, rfl, rfl, rfl, rfl, rfl, ⟨cells.map cycleOf, rfl, fun c hc => ?_⟩,
    List.filter_sublist⟩
  obtain ⟨cell, _, rfl⟩ := List.mem_map.mp hc
  rfl

end Sys2Proof.Claims
end
section
/-! PROOFS. What every step keeps: the canonical form of memory, the SO detector, the parameters; and the
state after reset, which has them. -/

namespace Sys2Proof.Claims

open Sys2Proof.Machine

/-! ## The reset state, R44 -/

/-- Settles O13, by evaluation. -/
theorem resetSatisfiesInvariant : Obligations.ResetSatisfiesInvariant := ⟨rfl, rfl, rfl, rfl⟩

/-- Settles O56, by evaluation. -/
theorem resetStateHasTheStatedValues : Obligations.ResetStateHasTheStatedValues :=
  ⟨rfl, rfl, rfl, rfl, rfl, rfl, rfl, rfl⟩

/-! ## One input and the boundary -/

theorem applyInput_keeps_wf {s : State} (hwf : s.mem.wf = true) (input : Input) :
    (s.applyInput input).mem.wf = true := by
  cases input with
  | so high | clock high =>
    simp only [State.applyInput]
    split <;> exact hwf
  | dma a v =>
    simp only [State.applyInput]
    split
    · exact hwf
    · exact State.wf_memAfter a v hwf
  | irq _ | nmi _ | rdy _ | res _ | resCut | halt _ _ => exact hwf

/-- The detector follows the pin after the sample itself, R40. -/
theorem soFollows_sampleSo (s : State) : s.sampleSo.soFollows = true := by
  simp only [State.sampleSo, State.soFollows, State.setP_pins, State.setPins_pins, beq_self_eq_true,
    Bool.or_true]

theorem soFollows_of_clock_stopped {s : State} (h : s.pins.clock = false) : s.soFollows = true := by
  rw [State.soFollows, h]
  rfl

theorem applyInput_keeps_soFollows {s : State} (hso : s.soFollows = true) (input : Input) :
    (s.applyInput input).soFollows = true := by
  cases input with
  | so high =>
    simp only [State.applyInput]
    split
    next hclock => exact soFollows_sampleSo _
    next hclock => exact soFollows_of_clock_stopped (Bool.eq_false_iff.mpr hclock)
  | clock running =>
    simp only [State.applyInput]
    split
    next => exact soFollows_sampleSo _
    next => exact soFollows_of_clock_stopped rfl
  | dma a v =>
    simp only [State.applyInput]
    split <;> exact hso
  | irq _ | nmi _ | rdy _ | res _ | resCut | halt _ _ => exact hso

theorem foldl_applyInput_keeps_wf {s : State} (hwf : s.mem.wf = true) (batch : List Input) :
    (batch.foldl State.applyInput s).mem.wf = true := by
  induction batch generalizing s with
  | nil => exact hwf
  | cons input batch ih => exact ih (applyInput_keeps_wf hwf input)

theorem foldl_applyInput_keeps_soFollows {s : State} (hso : s.soFollows = true)
    (batch : List Input) : (batch.foldl State.applyInput s).soFollows = true := by
  induction batch generalizing s with
  | nil => exact hso
  | cons input batch ih => exact ih (applyInput_keeps_soFollows hso input)

theorem boundary_keeps_wf {s : State} (hwf : s.mem.wf = true) : s.boundary.mem.wf = true :=
  foldl_applyInput_keeps_wf (s := s.beginStep) hwf _

theorem boundary_keeps_soFollows {s : State} (hso : s.soFollows = true) :
    s.boundary.soFollows = true :=
  foldl_applyInput_keeps_soFollows (s := s.beginStep) hso _

theorem tick_applyInput (s : State) (input : Input) :
    (s.applyInput input).tick = s.tick + 1 := by
  cases input with
  | so high | clock high =>
    simp only [State.applyInput]
    split <;> rfl
  | dma a v =>
    simp only [State.applyInput]
    split <;> rfl
  | irq _ | nmi _ | rdy _ | res _ | resCut | halt _ _ => rfl

theorem tick_foldl_applyInput (batch : List Input) (s : State) :
    (batch.foldl State.applyInput s).tick = s.tick + batch.length := by
  induction batch generalizing s with
  | nil => rfl
  | cons input batch ih =>
    rw [List.foldl_cons, ih, tick_applyInput, List.length_cons]
    omega

theorem tick_boundary (s : State) :
    s.boundary.tick = s.tick + (s.inputs.headD []).length + 1 :=
  congrArg (· + 1) (tick_foldl_applyInput (s.inputs.headD []) s.beginStep)

/-! ## One pass and one step -/

/-- The environment's side that a pass of the boundary logic reads but does not change, with the
canonical form of memory. -/
structure KeepsEnvironment (s t : State) : Prop where
  pins : t.pins = s.pins
  cfg : t.cfg = s.cfg
  tick : t.tick = s.tick
  resCut : t.resCut = s.resCut
  wf : s.mem.wf = true → t.mem.wf = true

theorem exec_keepsEnvironment {i : Instr} {s t : State} (h : exec i s = .next t) :
    KeepsEnvironment s t := by
  obtain ⟨cells, _, _, honly⟩ := exec_stores h
  have hmem : t.mem = (storeAll s cells).mem := by rw [honly]
  rw [storeAll_eq] at honly
  exact {
    pins := by rw [honly]
    cfg := by rw [honly]
    tick := by rw [honly]
    resCut := by rw [honly]
    wf := fun hwf => hmem ▸ wf_storeAll hwf cells }

theorem trapEntry_keepsEnvironment (s : State) (vector ret : Word) (b : Bool) :
    KeepsEnvironment s (s.trapEntry vector ret b) where
  pins := by rw [State.trapEntry_eq]
  cfg := by rw [State.trapEntry_eq]
  tick := by rw [State.trapEntry_eq]
  resCut := by rw [State.trapEntry_eq]
  wf := State.wf_pushTrapFrame s ret b

theorem cycle_keepsEnvironment {s t : State} (h : s.cycle = .next t) : KeepsEnvironment s t := by
  rcases State.cycle_cases h with ⟨_, rfl⟩ | ⟨_, _, rfl⟩ | ⟨_, _, _, rfl⟩ | ⟨_, _, _, rfl⟩ |
    ⟨_, _, _, u, hexec, rfl⟩
  case inl => exact ⟨rfl, rfl, rfl, rfl, id⟩
  case inr.inl => exact ⟨rfl, rfl, rfl, rfl, id⟩
  case inr.inr.inl =>
    obtain ⟨hpins, hcfg, htick, hcut, hwf⟩ :=
      trapEntry_keepsEnvironment (s.setNmiLatch false) nmiVector s.pc false
    exact ⟨hpins, hcfg, htick, hcut, hwf⟩
  case inr.inr.inr.inl =>
    obtain ⟨hpins, hcfg, htick, hcut, hwf⟩ := trapEntry_keepsEnvironment s irqVector s.pc false
    exact ⟨hpins, hcfg, htick, hcut, hwf⟩
  case inr.inr.inr.inr =>
    obtain ⟨hpins, hcfg, htick, hcut, hwf⟩ := exec_keepsEnvironment hexec
    exact ⟨hpins, hcfg, htick, hcut, hwf⟩

theorem landDma_keepsEnvironment (s : State) : KeepsEnvironment s s.landDma where
  pins := by rw [State.landDma_eq]
  cfg := by rw [State.landDma_eq]
  tick := by rw [State.landDma_eq]
  resCut := by rw [State.landDma_eq]
  wf := State.wf_landDma

theorem KeepsEnvironment.trans {s t u : State} (h : KeepsEnvironment s t)
    (h' : KeepsEnvironment t u) : KeepsEnvironment s u where
  pins := h'.pins.trans h.pins
  cfg := h'.cfg.trans h.cfg
  tick := h'.tick.trans h.tick
  resCut := h'.resCut.trans h.resCut
  wf := h'.wf ∘ h.wf

/-- The end of a step leaves nothing of the other masters behind. -/
theorem landDma_settles (s : State) : s.landDma.dma = [] ∧ s.landDma.stalls = [] := by
  rw [State.landDma_eq]
  exact ⟨rfl, rfl⟩

theorem soFollows_congr {s t : State} (h : t.pins = s.pins) : t.soFollows = s.soFollows := by
  rw [State.soFollows, h, State.soFollows]

/-- What began in a good state leaves one when it is abandoned: RES is all that moved on the pins. -/
theorem abandon_inv {s t : State} (hs : s.Inv) (hwf : t.mem.wf = true) : (s.abandon t).Inv := by
  obtain ⟨hmem, hso, hdma, hstalls⟩ := hs
  exact ⟨wf_abandonedMem s.tick hmem hwf, hso, hdma, hstalls⟩

/-- What other masters wrote, once in memory, leaves nothing pending. -/
theorem landDma_inv {s : State} (hwf : s.mem.wf = true) (hso : s.soFollows = true) :
    s.landDma.Inv := by
  obtain ⟨hdma, hstalls⟩ := landDma_settles s
  have hpins := soFollows_congr (landDma_keepsEnvironment s).pins
  exact ⟨State.wf_landDma hwf, hpins.trans hso, hdma, hstalls⟩

/-- Settles O12: the boundary, the pass and the end of the step keep the invariant in turn, an abandoned
pass by the memories it leaves bytes of. -/
theorem stepKeepsInvariant : Obligations.StepKeepsInvariant := by
  intro s t hinv hstep
  obtain ⟨hwf, hso, _, _⟩ := hinv
  have hwfBoundary := boundary_keeps_wf hwf
  have hsoBoundary := boundary_keeps_soFollows hso
  rcases step_cases hstep with ⟨_, u, hcycle, rfl⟩ | ⟨_, u, hcycle, rfl⟩
  · have hkept := cycle_keepsEnvironment hcycle
    exact landDma_inv (hkept.wf hwfBoundary) ((soFollows_congr hkept.pins).trans hsoBoundary)
  · have hkept := cycle_keepsEnvironment hcycle
    exact abandon_inv (landDma_inv hwfBoundary hsoBoundary)
      (State.wf_landDma (hkept.wf hwfBoundary))

/-- Settles O14: the boundary counts its inputs and one more; the rest of the step counts nothing. -/
theorem stepKeepsParameters : Obligations.StepKeepsParameters := by
  intro s t hstep
  have htick := tick_boundary s
  have hcfg : s.boundary.cfg = s.cfg := by simp only [State.boundary_frame]
  rcases step_cases hstep with ⟨_, u, hcycle, rfl⟩ | ⟨_, u, hcycle, rfl⟩
  · have hkept := (cycle_keepsEnvironment hcycle).trans (landDma_keepsEnvironment u)
    exact ⟨hkept.cfg.trans hcfg, by rw [hkept.tick]; omega⟩
  · have hlanded := landDma_keepsEnvironment s.boundary
    exact ⟨hlanded.cfg.trans hcfg, by
      rw [show (s.boundary.landDma.abandon u.landDma).tick = s.boundary.tick from hlanded.tick]
      omega⟩

end Sys2Proof.Claims
end
section
/-! PROOFS. Reads and writes of memory (R62, R63, R73), and the inputs one by one (R39, R40, R342 to
R347). -/

namespace Sys2Proof.Claims

open Sys2Proof.Machine

/-! ## Memory -/

/-- The last write of another master before a cycle is the one that counts there. -/
theorem dmaByte_append_one (slot : BusSlot) (a : Word) (w : DmaWrite) (ws : List DmaWrite)
    (v : Byte) : dmaByte slot a (ws ++ [w]) v =
      if w.hits slot a then w.value else dmaByte slot a ws v := by
  induction ws generalizing v with
  | nil => rfl
  | cons x ws ih => exact ih _

theorem read_of_last_dma {s : State} {a : Word} {slot before : BusSlot} {w : Byte}
    {earlier : List DmaWrite} (hram : s.answer a = .ram)
    (hdma : s.dma = earlier ++ [{ before := before, address := a, value := w }]) :
    s.read slot a = if slotRank before ≤ slotRank slot then w
      else ({ s with dma := earlier } : State).read slot a := by
  have hram' : ({ s with dma := earlier } : State).answer a = .ram := hram
  rw [State.read_of_ram hram, State.read_of_ram hram', hdma, dmaByte_append_one,
    DmaWrite.hits_self]
  simp only [decide_eq_true_eq]

theorem read_of_rom {s : State} {a : Word} (hrom : s.answer a = .rom) (slot : BusSlot) :
    s.read slot a = byteAt s a := by
  rw [State.read, hrom, byteAt]

/-- Settles O9. -/
theorem memoryReadsAndWrites : Obligations.MemoryReadsAndWrites := by
  intro a b v slot s hwf
  obtain ⟨hwf', hother, hsame, hnone, _⟩ := State.write_spec s slot a v hwf
  exact ⟨hsame, fun hab => hother slot b hab.symm, hnone, hwf', wrote_write hwf slot a v,
    fun hrom => read_of_rom hrom slot, fun hram hdma => read_eq_byteAt hram hdma slot,
    fun before w earlier hram hdma => read_of_last_dma hram hdma⟩

/-! ## Inputs -/

theorem nmiLatch_of_nmi {s : State} (hclock : s.pins.clock = true) (high : Bool) :
    (s.applyInput (.nmi high)).nmiLatch = (s.nmiLatch || (s.pins.nmi && !high)) := by
  have hlatch : (s.applyInput (.nmi high)).nmiLatch =
      (s.nmiLatch || (s.pins.nmi && !high && (s.pins.clock || Config.standbyNmi (s.tick + 1)))) :=
    rfl
  rw [hlatch, hclock, Bool.true_or, Bool.and_true]

/-- What a level of SO does to the flags: V is set by a sampled fall, R40. -/
theorem flags_of_so (s : State) (high : Bool) :
    (s.applyInput (.so high)).p = if s.pins.clock then
      { s.p with v := s.p.v ||
        (s.pins.soSampled && !high && (s.pins.rdy || Config.haltedSo (s.tick + 1))) } else s.p := by
  have happly : s.applyInput (.so high) =
      if s.pins.clock then ((s.setTick (s.tick + 1)).setPins { s.pins with so := high }).sampleSo
      else (s.setTick (s.tick + 1)).setPins { s.pins with so := high } := rfl
  rw [happly]
  split <;> rfl

theorem flags_of_so_running {s : State} (hclock : s.pins.clock = true) (hrdy : s.pins.rdy = true)
    (high : Bool) : (s.applyInput (.so high)).p =
      { s.p with v := s.p.v || (s.pins.soSampled && !high) } := by
  rw [flags_of_so, if_pos hclock, hrdy, Bool.true_or, Bool.and_true]

theorem flags_of_so_high (s : State) : (s.applyInput (.so true)).p = s.p := by
  rw [flags_of_so]
  split
  · simp only [Bool.not_true, Bool.and_false, Bool.false_and, Bool.or_false]
  · rfl

theorem flags_of_so_only_v (s : State) (high : Bool) :
    ∃ o, (s.applyInput (.so high)).p = { s.p with v := o } := by
  rw [flags_of_so]
  split
  · exact ⟨_, rfl⟩
  · exact ⟨s.p.v, rfl⟩

theorem flags_of_clock_only_v (s : State) (running : Bool) :
    ∃ o, (s.applyInput (.clock running)).p = { s.p with v := o } := by
  cases running with
  | true => exact ⟨_, rfl⟩
  | false => exact ⟨s.p.v, rfl⟩

theorem mem_of_dma (s : State) (a : Word) (v : Byte) :
    (s.applyInput (.dma a v)).mem = if s.pins.rdy then s.mem else s.memAfter a v := by
  have happly : s.applyInput (.dma a v) =
      if s.pins.rdy then s.setTick (s.tick + 1) else (s.setTick (s.tick + 1)).poke a v := rfl
  rw [happly]
  split <;> rfl

theorem applyInput_halt {s : State} (hdma : s.dma = []) (slot : BusSlot) (a : Word) (v : Byte) :
    s.applyInput (.halt slot [(a, v)]) =
      { s with
        tick := s.tick + 1
        stalls := s.stalls ++ [slot]
        dma := [{ before := slot, address := a, value := v }] } := by
  have hinserted : s.applyInput (.halt slot [(a, v)]) =
      { s with
        tick := s.tick + 1
        stalls := s.stalls ++ [slot]
        dma := insertDma ⟨slot, a, v⟩ s.dma } := rfl
  rw [hinserted, hdma]
  rfl

/-- Settles O57, input by input. -/
theorem pinsActAtTheirEdges : Obligations.PinsActAtTheirEdges := by
  intro high slot a v s
  exact ⟨fun hclock => nmiLatch_of_nmi hclock high,
    fun hclock hrdy => flags_of_so_running hclock hrdy high, flags_of_so_high s,
    flags_of_so_only_v s high, flags_of_clock_only_v s high, rfl, rfl, rfl,
    fun hrdy => (mem_of_dma s a v).trans (if_pos hrdy),
    fun hrdy => (mem_of_dma s a v).trans (if_neg (Bool.eq_false_iff.mp hrdy)),
    fun hdma => applyInput_halt hdma slot a v⟩

end Sys2Proof.Claims
end
section
/-! PROOFS. Whole steps: of the halted processor, at a quiet boundary, after any batch of inputs, through an
interrupt or the reset sequence, and one that RES cuts short (R42, R343, R352, R380, R383). -/

namespace Sys2Proof.Claims

open Sys2Proof.Machine

/-! ## Boundaries and steps -/

theorem boundary_eq_atBoundary {s : State} (h : (s.inputs.headD []).isEmpty = true) :
    s.boundary = atBoundary s :=
  State.boundary_of_no_input h

/-- A step in which RES does not fall is one pass with what other masters wrote landed. -/
theorem step_of_not_cut {s : State} (h : s.boundary.resCut = false) :
    step s = land s.boundary.cycle := by
  rw [step, State.cycleOrAbandon, h, if_neg Bool.false_ne_true]

theorem step_of_cycle {s t : State} (hcut : s.boundary.resCut = false)
    (h : s.boundary.cycle = .next t) : step s = .next t.landDma := by
  rw [step_of_not_cut hcut, h, land]

/-- With no other master about, the end of a step changes nothing. -/
theorem landDma_of_settled {s : State} (hdma : s.dma = []) (hstalls : s.stalls = []) :
    s.landDma = s := by
  rw [State.landDma_of_nil hdma, ← hdma, ← hstalls]

/-! ## The halted processor, R42 -/

theorem cycle_of_halted {s : State} (h : s.halted = true) :
    s.cycle = .next (s.setBus s.heldBus) := by
  rw [State.cycle, if_pos h]

theorem halted_iff (s : State) : s.halted = true ↔
    s.pins.rdy = false ∨ s.pins.clock = false ∨ s.pins.res = false := by
  simp only [State.halted, Bool.or_eq_true, Bool.not_eq_true']
  tauto

theorem heldBus_eq (s : State) : s.heldBus =
    if s.pins.clock = true ∧ s.pins.res = true ∧ s.resetDue = false then
      [{ slot := .opcode, address := s.pc, write := false, data := none, ready := false }]
    else [] := by
  simp only [State.heldBus, Bool.and_eq_true, Bool.not_eq_true', and_assoc]
  rfl

/-- Settles O59. -/
theorem haltedStepChangesNothing : Obligations.HaltedStepChangesNothing := by
  intro s hempty hcut hpins
  have hboundary := boundary_eq_atBoundary hempty
  have hhalted : (atBoundary s).halted = true := (halted_iff s).mpr hpins
  have hcycle : s.boundary.cycle = .next ((atBoundary s).setBus s.heldBus) := by
    rw [hboundary]
    exact cycle_of_halted hhalted
  have hstep := step_of_cycle (hboundary ▸ hcut) hcycle
  rw [landDma_of_settled rfl rfl, heldBus_eq] at hstep
  exact hstep

/-! ## An abandoned step, R383 -/

theorem mem_addresses_below : ∀ {lo : Nat} (m : Memory), Memory.wfAbove lo m = true →
    ∀ c ∈ m, c.1 < 65536
  | _, [], _, _, hc => nomatch hc
  | lo, (k, v) :: m, hwf, c, hc => by
    simp only [Memory.wfAbove, Bool.and_eq_true, decide_eq_true_eq] at hwf
    obtain ⟨⟨⟨_, hk⟩, _⟩, hrest⟩ := hwf
    rcases List.mem_cons.mp hc with rfl | hc
    · exact hk
    · exact mem_addresses_below m hrest c hc

/-- Every byte of `m` is the one `before` or the one `after` holds. -/
def OldOrNew (before after m : Memory) : Prop :=
  ∀ a, m.read a = before.read a ∨ m.read a = after.read a

theorem oldOrNew_write {before after m : Memory} {a : Nat} (hwf : m.wf = true)
    (h : OldOrNew before after m) : OldOrNew before after (m.write a (before.read a)) := by
  intro b
  by_cases hab : b = a
  · rw [hab, Memory.read_write_same _ m hwf]
    exact .inl rfl
  · rw [Memory.read_write_other hab]
    exact h b

theorem oldOrNew_foldl {before after : Memory} (keeps : Nat → Bool) (cells : List Host.Cell)
    (hbelow : ∀ c ∈ cells, c.1 < 65536) {m : Memory} (hwf : m.wf = true)
    (h : OldOrNew before after m) :
    OldOrNew before after (cells.foldl
      (fun m c => if keeps c.1 then m.write c.1 (before.read c.1) else m) m) := by
  induction cells generalizing m with
  | nil => exact h
  | cons c cells ih =>
    have hrest := fun c' hc' => hbelow c' (List.mem_cons_of_mem c hc')
    rw [List.foldl_cons]
    split
    · exact ih hrest (Memory.wf_write (hbelow c List.mem_cons_self) _ hwf) (oldOrNew_write hwf h)
    · exact ih hrest hwf h

theorem oldOrNew_abandonedMem (tick : Nat) {before after : Memory} (hbefore : before.wf = true)
    (hafter : after.wf = true) : OldOrNew before after (abandonedMem tick before after) := by
  refine oldOrNew_foldl (Config.keepsOldByte tick) (before ++ after) (fun c hc => ?_) hafter
    fun a => .inr rfl
  rcases List.mem_append.mp hc with hc | hc
  · exact mem_addresses_below before hbefore c hc
  · exact mem_addresses_below after hafter c hc

/-- Settles O60: each byte the fold over both memories touches is put back as it was. -/
theorem abandonedInstructionLeavesOldOrNewBytes :
    Obligations.AbandonedInstructionLeavesOldOrNewBytes := by
  intro s t u hwf hcut hstep hwhole
  have hwfBoundary := boundary_keeps_wf hwf
  obtain ⟨v, hcycle, rfl⟩ := land_eq_next hwhole
  rcases step_cases hstep with ⟨hcut', _⟩ | ⟨_, v', hcycle', rfl⟩
  · cases hcut.symm.trans hcut'
  · obtain rfl := Host.Outcome.next.inj (hcycle.symm.trans hcycle')
    have hwfAfter := State.wf_landDma ((cycle_keepsEnvironment hcycle).wf hwfBoundary)
    have hbytes := oldOrNew_abandonedMem s.boundary.landDma.tick (State.wf_landDma hwfBoundary)
      hwfAfter
    exact ⟨rfl, rfl, fun a => hbytes a.toNat⟩

end Sys2Proof.Claims
end
section
/-! PROOFS. Steps that run an instruction, take an interrupt, or run the reset sequence (R92, R343, R352,
R380). -/

namespace Sys2Proof.Claims

open Sys2Proof.Machine

/-! ## The step of an instruction, R92 -/

theorem fetchInstr_of_fetchBytes {i : Instr} {s : State} (h : s.fetchBytes = encode i) :
    s.fetchInstr = i := by
  obtain ⟨op, operands, henc⟩ := exists_encodedAs i
  have hdecode := henc.decode_eq []
  rw [List.append_nil] at hdecode
  rw [State.fetchInstr, h, henc.encode_eq]
  exact hdecode

/-- The bytes an opcode needs are enough to read its instruction. -/
theorem fetchInstr_of_fetched {i : Instr} {rest : List Byte} {s : State}
    (h : fetched s = .ok (i, rest)) : s.fetchInstr = i := by
  rw [fetched, decode_four_bytes] at h
  obtain ⟨rfl, _⟩ := Prod.mk.inj (Except.ok.inj h)
  apply fetchInstr_of_fetchBytes
  rw [encode_decodeOpcode, ← List.take_succ_cons,
    Nat.sub_add_cancel (opcodeLength_bounds (s.read .opcode s.pc)).1]
  rfl

theorem pendingInterrupt_of_noInterrupt {s : State} (h : NoInterrupt s) :
    s.pendingInterrupt = none := by
  rcases h with hsingle | ⟨hlatch, hirq⟩
  · exact State.pendingInterrupt_of_lastSingle hsingle
  · rw [State.pendingInterrupt, hlatch]
    rcases hirq with hirq | hirq <;> simp [hirq]

/-- Nothing at the boundary keeps the step from running an instruction. -/
structure RunsInstr (s : State) : Prop where
  running : s.halted = false
  noReset : s.resetDue = false
  notCut : s.resCut = false
  noInterrupt : NoInterrupt s

theorem cycle_of_runsInstr {i : Instr} {rest : List Byte} {s u : State} (hruns : RunsInstr s)
    (hfetched : fetched s = .ok (i, rest)) (hexec : exec i s = .next u) :
    s.cycle = .next { u with
      lastSingle := i.singleCycle
      bus := withStalls u.stalls (mergeCycles (readCycles i s) u.bus) } := by
  rw [State.cycle, hruns.running, hruns.noReset, pendingInterrupt_of_noInterrupt hruns.noInterrupt,
    State.runInstr, fetchInstr_of_fetched hfetched, hexec]
  rfl

theorem step_of_runsInstr {i : Instr} {rest : List Byte} {s u : State}
    (hruns : RunsInstr s.boundary) (hfetched : fetched s.boundary = .ok (i, rest))
    (hexec : exec i s.boundary = .next u) :
    step s = .next ({ u with
      lastSingle := i.singleCycle
      bus := withStalls u.stalls (mergeCycles (readCycles i s.boundary) u.bus) } :
        State).landDma :=
  step_of_cycle hruns.notCut (cycle_of_runsInstr hruns hfetched hexec)

theorem withStalls_nil (cycles : List BusCycle) : withStalls [] cycles = cycles := by
  induction cycles with
  | nil => rfl
  | cons c cycles ih => rw [withStalls, ih, List.count_nil, List.replicate_zero, List.nil_append]

/-- An instruction adds neither a halt nor a write of another master. -/
theorem exec_keeps_settled {i : Instr} {s t : State} (hexec : exec i s = .next t)
    (hdma : s.dma = []) (hstalls : s.stalls = []) : t.dma = [] ∧ t.stalls = [] := by
  obtain ⟨_, _, _, _, _, _, hkept, _, _, _, hsub⟩ := instructionLeavesThePinsAlone i s t hexec
  rw [hdma] at hsub
  exact ⟨List.sublist_nil.mp hsub, hkept.trans hstalls⟩

/-- The step of an instruction with no halt in it and no other master acting. -/
theorem step_of_settled {i : Instr} {rest : List Byte} {s u : State}
    (hruns : RunsInstr s.boundary) (hdma : s.boundary.dma = []) (hstalls : s.boundary.stalls = [])
    (hfetched : fetched s.boundary = .ok (i, rest)) (hexec : exec i s.boundary = .next u) :
    step s = .next { u with
      lastSingle := i.singleCycle
      bus := mergeCycles (readCycles i s.boundary) u.bus } := by
  obtain ⟨hdma', hstalls'⟩ := exec_keeps_settled hexec hdma hstalls
  have hstep := step_of_runsInstr hruns hfetched hexec
  rw [hstalls', withStalls_nil, ← hstalls'] at hstep
  exact hstep.trans (congrArg Host.Outcome.next (landDma_of_settled hdma' hstalls'))

theorem quiet_iff (s : State) : s.quiet = true ↔ (s.inputs.headD []).isEmpty = true ∧
    s.halted = false ∧ s.resetDue = false ∧ s.resCut = false := by
  simp only [State.quiet, Bool.and_eq_true, Bool.not_eq_true', and_assoc]

theorem runsInstr_of_quiet {s : State} (hquiet : s.quiet = true) (h : NoInterrupt s) :
    RunsInstr s.boundary := by
  obtain ⟨hempty, hrun, hreset, hcut⟩ := (quiet_iff s).mp hquiet
  rw [boundary_eq_atBoundary hempty]
  exact ⟨hrun, hreset, hcut, h⟩

/-- Settles O10: the quiet boundary is the one after an empty batch. -/
theorem stepRunsDecodedInstruction : Obligations.StepRunsDecodedInstruction := by
  intro i rest s u _
  constructor
  · intro hquiet hnone hfetched hexec
    obtain ⟨hempty, _⟩ := (quiet_iff s).mp hquiet
    have hruns := runsInstr_of_quiet hquiet hnone
    rw [← boundary_eq_atBoundary hempty] at hfetched hexec ⊢
    exact step_of_settled hruns (by rw [boundary_eq_atBoundary hempty]; rfl)
      (by rw [boundary_eq_atBoundary hempty]; rfl) hfetched hexec
  · intro hrun hreset hcut hnone hfetched hexec
    exact step_of_runsInstr ⟨hrun, hreset, hcut, hnone⟩ hfetched hexec

/-! ## The interrupt sequences, R343, R352 -/

/-- The three pushes come before the two vector reads, R67. -/
theorem mergeCycles_trapCells (s : State) (ret vector : Word) (b : Bool) :
    mergeCycles (vectorCycles vector) ((trapCells s ret b).map cycleOf) =
      (trapCells s ret b).map cycleOf ++ vectorCycles vector := by
  simp [mergeCycles, insertCycle, vectorCycles, trapCells, cycleOf, readCycle, slotRank]

theorem landDma_recordBus {s : State} (hdma : s.dma = []) (hstalls : s.stalls = [])
    (reads : List BusCycle) :
    (s.recordBus reads).landDma = s.setBus (mergeCycles reads s.bus) := by
  rw [State.recordBus, hstalls, withStalls_nil]
  exact landDma_of_settled hdma hstalls

/-- An interrupt sequence from a state in which nothing else acts. -/
theorem trapSequence_eq {s : State} (hbus : s.bus = []) (hdma : s.dma = [])
    (hstalls : s.stalls = []) (vector : Word) :
    (((s.trapEntry vector s.pc false).setLastSingle false).recordBus
      (vectorCycles vector)).landDma =
    ((trapped s (storeAll s (trapCells s s.pc false)) vector
        (trapFlags s.cfg.trapClearsD s.tick s.p).d).setLastSingle false).setBus
      ((storeAll s (trapCells s s.pc false)).bus ++ vectorCycles vector) := by
  have hstored := storeAll_eq s (trapCells s s.pc false)
  rw [hbus, hdma, List.nil_append, List.filter_nil] at hstored
  have hdma' : (storeAll s (trapCells s s.pc false)).dma = [] := by rw [hstored]
  have hstalls' : (storeAll s (trapCells s s.pc false)).stalls = [] := by rw [hstored, hstalls]
  have hmerged : mergeCycles (vectorCycles vector) (storeAll s (trapCells s s.pc false)).bus =
      (storeAll s (trapCells s s.pc false)).bus ++ vectorCycles vector := by
    rw [hstored, mergeCycles_trapCells]
  rw [trapEntry_eq_trapped, ← hmerged]
  exact landDma_recordBus
    (s := (trapped s (storeAll s (trapCells s s.pc false)) vector
      (trapFlags s.cfg.trapClearsD s.tick s.p).d).setLastSingle false) hdma' hstalls' _

theorem cycle_of_nmi {s : State} (hrun : s.halted = false) (hreset : s.resetDue = false)
    (h : s.pendingInterrupt = some .nmi) : s.cycle = .next s.takeNmi := by
  rw [State.cycle, hrun, hreset, h]
  rfl

theorem cycle_of_irq {s : State} (hrun : s.halted = false) (hreset : s.resetDue = false)
    (h : s.pendingInterrupt = some .irq) : s.cycle = .next s.takeIrq := by
  rw [State.cycle, hrun, hreset, h]
  rfl

/-- Settles O53. -/
theorem interruptsAreTaken : Obligations.InterruptsAreTaken := by
  intro s hwf hquiet hopen
  obtain ⟨hempty, hrun, hreset, hcut⟩ := (quiet_iff s).mp hquiet
  have hboundary := boundary_eq_atBoundary hempty
  have hwrote : Wrote (atBoundary s) _ (trapCells s s.pc false) :=
    wrote_trapCells (s := atBoundary s) hwf s.pc false
  have hd : TrapD s _ := trapD_trapFlags (atBoundary s)
  constructor
  · intro hlatch
    refine ⟨_, _, hd, hwrote, ?_⟩
    have hpending : (atBoundary s).pendingInterrupt = some .nmi := by
      simp only [State.pendingInterrupt, atBoundary, hopen, hlatch, Bool.false_eq_true, if_false,
        if_true]
    have hcycle := cycle_of_nmi (s := atBoundary s) hrun hreset hpending
    rw [← hboundary] at hcycle
    refine (step_of_cycle (hboundary ▸ hcut) hcycle).trans ?_
    rw [hboundary]
    exact congrArg Host.Outcome.next
      (trapSequence_eq (s := (atBoundary s).setNmiLatch false) rfl rfl rfl nmiVector)
  · intro hlatch hirq hmask
    refine ⟨_, _, hd, hwrote, ?_⟩
    have hpending : (atBoundary s).pendingInterrupt = some .irq := by
      simp only [State.pendingInterrupt, atBoundary, hopen, hlatch, hirq, hmask,
        Bool.false_eq_true, if_false, Bool.not_false, Bool.and_self, if_true]
    have hcycle := cycle_of_irq (s := atBoundary s) hrun hreset hpending
    rw [← hboundary] at hcycle
    refine (step_of_cycle (hboundary ▸ hcut) hcycle).trans ?_
    rw [hboundary]
    exact congrArg Host.Outcome.next (trapSequence_eq (s := atBoundary s) rfl rfl rfl irqVector)

/-! ## The reset sequence, R380 -/

theorem cycle_of_resetDue {s : State} (hrun : s.halted = false) (hdue : s.resetDue = true) :
    s.cycle = .next s.resetSequence := by
  rw [State.cycle, hrun, if_neg Bool.false_ne_true, if_pos hdue]

/-- What other masters leave in memory depends on memory, the map and their writes only. -/
theorem foldl_poke_congr (ws : List DmaWrite) {s t : State} (hm : s.mem = t.mem)
    (hc : s.cfg = t.cfg) :
    (ws.foldl (fun u w => u.poke w.address w.value) s).mem =
      (ws.foldl (fun u w => u.poke w.address w.value) t).mem := by
  induction ws generalizing s t with
  | nil => exact hm
  | cons w ws ih =>
    exact ih (s := s.poke w.address w.value) (t := t.poke w.address w.value)
      (memAfter_congr hm hc w.address w.value) hc

theorem landDma_resetSequence (s : State) : s.resetSequence.landDma.mem = s.landDma.mem := by
  obtain ⟨hmem, hcfg, _⟩ := State.resetSequence_frame s
  exact foldl_poke_congr s.dma hmem hcfg

/-- Settles O55. -/
theorem resetSequenceSetsWhatTheSpecLists : Obligations.ResetSequenceSetsWhatTheSpecLists := by
  intro s hrun hdue hcut
  have hstep := step_of_cycle hcut (cycle_of_resetDue hrun hdue)
  have hlanded := State.landDma_eq s.boundary.resetSequence
  obtain ⟨_, _, _, _, _, _, _, hcfg, _, hinputs⟩ := State.boundary_frame s
  have hsph : (wordOf 0x01 (Config.resetSpl s.boundary.tick)).toNat / 256 = 1 := by
    have hlow := (Config.resetSpl s.boundary.tick).isLt
    have hone : (0x01 : Byte).toNat = 1 := rfl
    rw [wordOf_toNat, hone]
    omega
  rw [landDma_resetSequence] at hlanded
  rw [hlanded] at hstep
  refine ⟨_, hstep, rfl, rfl, hsph, rfl, rfl, wordOf_eq_word _ _, rfl, fun hdma => ?_, hcfg, rfl,
    hinputs, rfl, rfl, rfl⟩
  show s.boundary.landDma.mem = s.boundary.mem
  rw [State.landDma_of_nil hdma]

/-! ## TXS and TYS, R30 -/

/-- A batch that moves only the IRQ and NMI pins moves nothing else but the NMI latch and the
counter. -/
theorem foldl_movesInterruptPin (batch : List Input) (h : batch.all movesInterruptPin = true)
    (s : State) : ∃ irq nmi latch tick, batch.foldl State.applyInput s =
      { s with
        pins := { s.pins with irq := irq, nmi := nmi }, nmiLatch := latch, tick := tick } := by
  induction batch generalizing s with
  | nil => exact ⟨_, _, _, _, rfl⟩
  | cons input batch ih =>
    obtain ⟨hinput, hbatch⟩ := Bool.and_eq_true_iff.mp h
    obtain ⟨irq, nmi, latch, tick, hrest⟩ := ih hbatch (s.applyInput input)
    refine ⟨irq, nmi, latch, tick, ?_⟩
    rw [List.foldl_cons, hrest]
    cases input with
    | irq _ | nmi _ => rfl
    | so _ | rdy _ | res _ | resCut | clock _ | dma _ _ | halt _ _ => cases hinput

/-- An instruction of one byte in RAM is what the step runs. -/
theorem fetched_of_opcode {i : Instr} {op : Byte} {s : State}
    (hdecode : ∀ b1 b2 b3, decodeOpcode op b1 b2 b3 = i) (hram : s.answer s.pc = .ram)
    (hdma : s.dma = []) (hbyte : byteAt s s.pc = op) : ∃ rest, fetched s = .ok (i, rest) := by
  rw [fetched, decode_four_bytes, read_eq_byteAt hram hdma, hbyte, hdecode]
  exact ⟨_, rfl⟩

theorem boundary_of_movesInterruptPin {s : State}
    (h : (s.inputs.headD []).all movesInterruptPin = true) :
    ∃ irq nmi latch tick, s.boundary = { atBoundary s with
      pins := { s.pins with irq := irq, nmi := nmi }, nmiLatch := latch, tick := tick } := by
  obtain ⟨irq, nmi, latch, tick, hbatch⟩ := foldl_movesInterruptPin _ h s.beginStep
  exact ⟨irq, nmi, latch, tick + 1, congrArg (fun t : State => t.setTick (t.tick + 1)) hbatch⟩

/-- TXS and TYS: a single-cycle opcode of one byte that makes a new SP of X, Y and the old one. -/
structure MovesToSp (i : Instr) (op : Byte) (f : Byte → Byte → Word → Word) : Prop where
  decode_eq : ∀ b1 b2 b3, decodeOpcode op b1 b2 b3 = i
  single : i.singleCycle = true
  exec_eq : ∀ s, exec i s = .next ((s.setSp (f s.x s.y s.sp)).setPc (s.pc + 1))

theorem movesToSp_txs : MovesToSp .txs 0x9A fun x _ sp => wordOf (hiByte sp) x :=
  ⟨fun _ _ _ => rfl, rfl, fun _ => rfl⟩

theorem movesToSp_tys : MovesToSp .tys 0x2B fun _ y sp => wordOf y (loByte sp) :=
  ⟨fun _ _ _ => rfl, rfl, fun _ => rfl⟩

/-- `t` is `s` after a step that ran such an opcode, whatever the interrupt pins did. -/
structure SpMoved (s t : State) (sp : Word) : Prop where
  sp_eq : t.sp = sp
  pc_eq : t.pc = s.pc + 1
  a_eq : t.a = s.a
  x_eq : t.x = s.x
  y_eq : t.y = s.y
  p_eq : t.p = s.p
  mem_eq : t.mem = s.mem
  cfg_eq : t.cfg = s.cfg
  inputs_eq : t.inputs = s.inputs.tail
  window : t.lastSingle = true
  running : t.halted = s.halted
  reset_eq : t.resetDue = s.resetDue
  cut_eq : t.resCut = s.resCut

theorem step_movesToSp {i : Instr} {op : Byte} {f : Byte → Byte → Word → Word} {s : State}
    (hmoves : MovesToSp i op f) (hrun : s.halted = false) (hreset : s.resetDue = false)
    (hcut : s.resCut = false) (hnone : NoInterrupt s.boundary)
    (hbatch : (s.inputs.headD []).all movesInterruptPin = true) (hram : s.answer s.pc = .ram)
    (hbyte : byteAt s s.pc = op) : ∃ t, step s = .next t ∧ SpMoved s t (f s.x s.y s.sp) := by
  obtain ⟨irq, nmi, latch, tick, hboundary⟩ := boundary_of_movesInterruptPin hbatch
  have hmem : s.boundary.mem = s.mem := by rw [hboundary]; rfl
  obtain ⟨_, _, _, _, _, _, hpc, hcfg, _, _⟩ := State.boundary_frame s
  have hram' : s.boundary.answer s.boundary.pc = .ram := by
    rw [hpc, State.answer, hcfg]
    exact hram
  have hbyte' : byteAt s.boundary s.boundary.pc = op := by
    rw [hpc, byteAt, hmem]
    exact hbyte
  have hdma : s.boundary.dma = [] := by rw [hboundary]; rfl
  have hstalls : s.boundary.stalls = [] := by rw [hboundary]; rfl
  have hruns : RunsInstr s.boundary := {
    running := by rw [hboundary]; exact hrun
    noReset := by rw [hboundary]; exact hreset
    notCut := by rw [hboundary]; exact hcut
    noInterrupt := hnone }
  obtain ⟨rest, hfetched⟩ := fetched_of_opcode hmoves.decode_eq hram' hdma hbyte'
  refine ⟨_, step_of_settled hruns hdma hstalls hfetched (hmoves.exec_eq s.boundary), ?_⟩
  rw [hboundary]
  exact ⟨rfl, rfl, rfl, rfl, rfl, rfl, rfl, rfl, rfl, hmoves.single, rfl, rfl, rfl⟩

/-- The window is closed after the first of the two, whatever moves on the interrupt pins. -/
theorem two_steps_movesToSp {i j : Instr} {first second : Byte}
    {f g : Byte → Byte → Word → Word} {batch : List Input} {later : List (List Input)} {s : State}
    (hi : MovesToSp i first f) (hj : MovesToSp j second g) (hholds : holdsOpcodes s first second)
    (hquiet : s.quiet = true) (hnone : NoInterrupt s) (hinputs : s.inputs = [] :: batch :: later)
    (hbatch : batch.all movesInterruptPin = true) :
    ∃ t u, step s = .next t ∧ step t = .next u ∧ u.sp = g s.x s.y (f s.x s.y s.sp) ∧
      u.mem = s.mem ∧ u.pc = s.pc + 1 + 1 ∧ u.a = s.a ∧ u.x = s.x ∧ u.y = s.y ∧ u.p = s.p := by
  obtain ⟨hram, hram', hbyte, hbyte'⟩ := hholds
  obtain ⟨hempty, hrun, hreset, hcut⟩ := (quiet_iff s).mp hquiet
  have hnone' : NoInterrupt s.boundary := (runsInstr_of_quiet hquiet hnone).noInterrupt
  have hfirst : (s.inputs.headD []).all movesInterruptPin = true := by rw [hinputs]; rfl
  obtain ⟨t, ht, hst⟩ := step_movesToSp hi hrun hreset hcut hnone' hfirst hram hbyte
  have hsecond : (t.inputs.headD []).all movesInterruptPin = true := by
    rw [hst.inputs_eq, hinputs]
    exact hbatch
  have hwindow : t.boundary.lastSingle = true := by
    simp only [State.boundary_frame, hst.window]
  have hram'' : t.answer t.pc = .ram := by
    rw [State.answer, hst.cfg_eq, hst.pc_eq]
    exact hram'
  have hbyte'' : byteAt t t.pc = second := by
    rw [byteAt, hst.mem_eq, hst.pc_eq]
    exact hbyte'
  obtain ⟨u, hu, htu⟩ := step_movesToSp hj (hst.running.trans hrun) (hst.reset_eq.trans hreset)
    (hst.cut_eq.trans hcut) (.inl hwindow) hsecond hram'' hbyte''
  have hsp := htu.sp_eq
  rw [hst.x_eq, hst.y_eq, hst.sp_eq] at hsp
  have hpc := htu.pc_eq
  rw [hst.pc_eq] at hpc
  exact ⟨t, u, ht, hu, hsp, htu.mem_eq.trans hst.mem_eq, hpc, htu.a_eq.trans hst.a_eq,
    htu.x_eq.trans hst.x_eq, htu.y_eq.trans hst.y_eq, htu.p_eq.trans hst.p_eq⟩

/-- Settles O54, in either order. -/
theorem noInterruptBetweenTxsAndTys : Obligations.NoInterruptBetweenTxsAndTys := by
  intro first second batch later s horder hholds hquiet hnone hinputs hbatch
  have hpc : s.pc + 1 + 1 = pcAfter s 2 := by
    rw [← pc_add_eq_pcAfter]
    exact BitVec.add_assoc s.pc 1 1
  rcases horder with ⟨rfl, rfl⟩ | ⟨rfl, rfl⟩
  · have hboth := two_steps_movesToSp movesToSp_txs movesToSp_tys hholds hquiet hnone hinputs hbatch
    rwa [hpc, loByte_wordOf, wordOf_eq_word] at hboth
  · have hboth := two_steps_movesToSp movesToSp_tys movesToSp_txs hholds hquiet hnone hinputs hbatch
    rwa [hpc, hiByte_wordOf, wordOf_eq_word] at hboth

end Sys2Proof.Claims
end
section
/-! PROOFS. Which registers and flags an instruction can change (R20 to R35), what it does to the stack page
(R27), and where it leaves pc (R92). -/

namespace Sys2Proof.Claims

open Sys2Proof.Machine

/-! ## The registers and flags an instruction writes -/

/-- A choice of registers and flags. -/
structure Parts where
  a : Bool := false
  x : Bool := false
  y : Bool := false
  z : Bool := false
  b : Bool := false
  sp : Bool := false
  n : Bool := false
  v : Bool := false
  e : Bool := false
  d : Bool := false
  i : Bool := false
  zf : Bool := false
  c : Bool := false

/-- What the meaning of an instruction writes besides pc and memory; one that is not listed writes
nothing. -/
def writtenParts (i : Instr) : Parts :=
  match i with
  | .tab => { b := true }
  | .clc | .sec => { c := true }
  | .cld | .sed => { d := true }
  | .cle | .see => { e := true }
  | .cli | .sei => { i := true }
  | .jsrAbs _ | .jsrAbsInd _ | .jsrAbsXInd _ | .rtn _ | .bsr _ | .phwImmW _ | .phwAbs _ | .php
    | .tys | .pha | .phy | .rts | .txs | .phx | .phz => { sp := true }
  | .clv => { v := true }
  | .tsbBp _ | .tsbAbs _ | .trbBp _ | .trbAbs _ => { zf := true }
  | .dew _ | .decBp _ | .decAbs _ | .decBpX _ | .decAbsX _ | .inw _ | .incBp _ | .incAbs _
    | .incBpX _ | .incAbsX _ => { n := true, zf := true }
  | .oraBpXInd _ | .oraBp _ | .oraImm _ | .oraAbs _ | .oraBpIndY _ | .oraBpIndZ _ | .oraBpX _
    | .oraAbsY _ | .oraAbsX _ | .andBpXInd _ | .andBp _ | .andImm _ | .andAbs _ | .andBpIndY _
    | .andBpIndZ _ | .andBpX _ | .andAbsY _ | .andAbsX _ | .eorBpXInd _ | .eorBp _ | .eorImm _
    | .eorAbs _ | .eorBpIndY _ | .eorBpIndZ _ | .eorBpX _ | .eorAbsY _ | .eorAbsX _ | .ldaBpXInd _
    | .ldaBp _ | .ldaImm _ | .ldaAbs _ | .ldaBpIndY _ | .ldaBpIndZ _ | .ldaBpX _ | .ldaAbsY _
    | .ldaAbsX _ | .ldaSpIndY _ | .incA | .decA | .neg | .tza | .tba | .txa | .tya =>
    { a := true, n := true, zf := true }
  | .bitBp _ | .bitAbs _ | .bitBpX _ | .bitAbsX _ | .bitImm _ =>
    { n := true, v := true, zf := true }
  | .aslBp _ | .aslAbs _ | .aslBpX _ | .aslAbsX _ | .rolBp _ | .rolAbs _ | .rolBpX _ | .rolAbsX _
    | .asrBp _ | .lsrBp _ | .lsrAbs _ | .asrBpX _ | .lsrBpX _ | .lsrAbsX _ | .rorBp _ | .rorAbs _
    | .rorBpX _ | .rorAbsX _ | .cpyImm _ | .cmpBpXInd _ | .cpzImm _ | .cpyBp _ | .cmpBp _
    | .cmpImm _ | .asw _ | .cpyAbs _ | .cmpAbs _ | .cmpBpIndY _ | .cmpBpIndZ _ | .cpzBp _
    | .cmpBpX _ | .cmpAbsY _ | .cpzAbs _ | .cmpAbsX _ | .cpxImm _ | .cpxBp _ | .row _ | .cpxAbs _ =>
    { n := true, zf := true, c := true }
  | .brk _ => { sp := true, d := true, i := true }
  | .ldxImm _ | .ldxBp _ | .ldxAbs _ | .ldxBpY _ | .ldxAbsY _ | .tax | .tsx | .dex | .inx =>
    { x := true, n := true, zf := true }
  | .ldyImm _ | .ldyBp _ | .ldyAbs _ | .ldyBpX _ | .ldyAbsX _ | .tsy | .dey | .tay | .iny =>
    { y := true, n := true, zf := true }
  | .ldzImm _ | .ldzAbs _ | .ldzAbsX _ | .inz | .dez | .taz => { z := true, n := true, zf := true }
  | .aslA | .rolA | .asrA | .lsrA | .rorA => { a := true, n := true, zf := true, c := true }
  | .pla => { sp := true, a := true, n := true, zf := true }
  | .plx => { sp := true, x := true, n := true, zf := true }
  | .ply => { sp := true, y := true, n := true, zf := true }
  | .plz => { sp := true, z := true, n := true, zf := true }
  | .adcBpXInd _ | .adcBp _ | .adcImm _ | .adcAbs _ | .adcBpIndY _ | .adcBpIndZ _ | .adcBpX _
    | .adcAbsY _ | .adcAbsX _ | .sbcBpXInd _ | .sbcBp _ | .sbcImm _ | .sbcAbs _ | .sbcBpIndY _
    | .sbcBpIndZ _ | .sbcBpX _ | .sbcAbsY _ | .sbcAbsX _ =>
    { a := true, n := true, v := true, zf := true, c := true }
  | .plp | .rti =>
    { sp := true, n := true, v := true, e := true, d := true, i := true, zf := true, c := true }
  | _ => {}

/-- Of the registers and flags `t` differs from `s` in these only. -/
def DiffersIn (parts : Parts) (s t : State) : Prop :=
  t = { t with
    a := if parts.a then t.a else s.a
    x := if parts.x then t.x else s.x
    y := if parts.y then t.y else s.y
    z := if parts.z then t.z else s.z
    b := if parts.b then t.b else s.b
    sp := if parts.sp then t.sp else s.sp
    p := {
      n := if parts.n then t.p.n else s.p.n
      v := if parts.v then t.p.v else s.p.v
      e := if parts.e then t.p.e else s.p.e
      d := if parts.d then t.p.d else s.p.d
      i := if parts.i then t.p.i else s.p.i
      zf := if parts.zf then t.p.zf else s.p.zf
      c := if parts.c then t.p.c else s.p.c } }

/-! ## One rule per operation of the meanings -/

theorem differsIn_none (s : State) :
    DiffersIn {} s s := rfl

theorem differsIn_writeData (s : State) (ea : Word) (v : Byte) :
    DiffersIn {} s (s.writeData ea v) := rfl

theorem differsIn_putA (s : State) (v : Byte) :
    DiffersIn { a := true, n := true, zf := true } s (s.putA v) := rfl

theorem differsIn_putX (s : State) (v : Byte) :
    DiffersIn { x := true, n := true, zf := true } s (s.putX v) := rfl

theorem differsIn_putY (s : State) (v : Byte) :
    DiffersIn { y := true, n := true, zf := true } s (s.putY v) := rfl

theorem differsIn_putZ (s : State) (v : Byte) :
    DiffersIn { z := true, n := true, zf := true } s (s.putZ v) := rfl

theorem differsIn_pullA (s : State) (v : Byte) :
    DiffersIn { sp := true, a := true, n := true, zf := true } s (s.incSp.putA v) := rfl

theorem differsIn_pullX (s : State) (v : Byte) :
    DiffersIn { sp := true, x := true, n := true, zf := true } s (s.incSp.putX v) := rfl

theorem differsIn_pullY (s : State) (v : Byte) :
    DiffersIn { sp := true, y := true, n := true, zf := true } s (s.incSp.putY v) := rfl

theorem differsIn_pullZ (s : State) (v : Byte) :
    DiffersIn { sp := true, z := true, n := true, zf := true } s (s.incSp.putZ v) := rfl

theorem differsIn_putMem (s : State) (ea : Word) (v : Byte) :
    DiffersIn { n := true, zf := true } s (s.putMem ea v) := rfl

theorem differsIn_putWord (s : State) (lo hi w : Word) :
    DiffersIn { n := true, zf := true } s
      (s.putWord lo hi w) := by
  rw [State.putWord, writeWord_eq_storeAll, storeAll_eq]
  rfl

theorem differsIn_compare (s : State) (r m : Byte) :
    DiffersIn { n := true, zf := true, c := true } s (s.setP (s.p.compare r m)) := rfl

theorem differsIn_shiftA (s : State) (op : Bool → Byte → Byte × Bool) :
    DiffersIn { a := true, n := true, zf := true, c := true } s (s.shiftA op) := rfl

theorem differsIn_shiftMem (s : State) (op : Bool → Byte → Byte × Bool) (ea : Word) :
    DiffersIn { n := true, zf := true, c := true } s (s.shiftMem op ea) := rfl

theorem differsIn_shiftWord (s : State) (op : Bool → Word → Word × Bool) (lo hi : Word) :
    DiffersIn { n := true, zf := true, c := true } s
      (s.shiftWord op lo hi) := by
  rw [State.shiftWord, writeWord_eq_storeAll, storeAll_eq]
  rfl

theorem differsIn_bitTest (s : State) (m : Byte) :
    DiffersIn { n := true, v := true, zf := true } s (s.bitTest m) := rfl

theorem differsIn_testSet (s : State) (ea : Word) :
    DiffersIn { zf := true } s (s.testSet ea) := rfl

theorem differsIn_testReset (s : State) (ea : Word) :
    DiffersIn { zf := true } s (s.testReset ea) := rfl

theorem differsIn_push (s : State) (slot : BusSlot) (v : Byte) :
    DiffersIn { sp := true } s (s.push slot v) := rfl

theorem differsIn_callPush (s : State) (ret : Word) :
    DiffersIn { sp := true } s
      (s.callPush ret) := by
  rw [callPush_eq_storeAll, storeAll_eq]
  rfl

theorem differsIn_setSp (s : State) (sp : Word) :
    DiffersIn { sp := true } s (s.setSp sp) := rfl

theorem differsIn_setB (s : State) (v : Byte) :
    DiffersIn { b := true } s (s.setB v) := rfl

theorem differsIn_pullP (s : State) :
    DiffersIn (writtenParts .plp) s s.pullP := rfl

theorem differsIn_flagC (s : State) (v : Bool) :
    DiffersIn { c := true } s (s.setP { s.p with c := v }) := rfl

theorem differsIn_flagD (s : State) (v : Bool) :
    DiffersIn { d := true } s (s.setP { s.p with d := v }) := rfl

theorem differsIn_flagE (s : State) (v : Bool) :
    DiffersIn { e := true } s (s.setP { s.p with e := v }) := rfl

theorem differsIn_flagI (s : State) (v : Bool) :
    DiffersIn { i := true } s (s.setP { s.p with i := v }) := rfl

theorem differsIn_flagV (s : State) (v : Bool) :
    DiffersIn { v := true } s (s.setP { s.p with v := v }) := rfl

/-- What ADC and SBC write: the flags E, D and I they keep. -/
def sumParts : Parts := { a := true, n := true, v := true, zf := true, c := true }

theorem differsIn_of_sum {s : State} {r : Byte} {p : Flags}
    (h : p.e = s.p.e ∧ p.d = s.p.d ∧ p.i = s.p.i) : DiffersIn sumParts s ((s.setA r).setP p) := by
  obtain ⟨n, v, e, d, i, zf, c⟩ := p
  obtain ⟨rfl, rfl, rfl⟩ := h
  rfl

theorem differsIn_adc (s : State) (m : Byte) : DiffersIn sumParts s (s.adc m) :=
  differsIn_of_sum (adcSum_frame s.tick s.p s.a m)

theorem differsIn_sbc (s : State) (m : Byte) : DiffersIn sumParts s (s.sbc m) :=
  differsIn_of_sum (sbcSum_frame s.tick s.p s.a m)

theorem differsIn_pushWord (s : State) (w : Word) :
    DiffersIn { sp := true } s (s.pushWord w) := by
  cases horder : s.cfg.phwOrder with
  | highFirst =>
    rw [pushWord_highFirst horder, push_push_eq_storeAll, storeAll_eq]
    rfl
  | lowFirst =>
    rw [pushWord_lowFirst horder, push_push_eq_storeAll, storeAll_eq]
    rfl

theorem DiffersIn.setPc {parts : Parts} {s t : State} (h : DiffersIn parts s t) (pc : Word) :
    DiffersIn parts s (t.setPc pc) :=
  congrArg (fun u : State => u.setPc pc) h

theorem DiffersIn.next {parts : Parts} {s t u : State} (hu : DiffersIn parts s u)
    (h : (Host.Outcome.next u : Result) = .next t) : DiffersIn parts s t :=
  Host.Outcome.next.inj h ▸ hu

theorem DiffersIn.retired {parts : Parts} {s t u : State} {len : Word}
    (hu : DiffersIn parts s u) (h : retire s len u = .next t) : DiffersIn parts s t :=
  (hu.setPc (s.pc + len)).next h

theorem differsIn_jump {s t : State} {pc : Word}
    (h : (Host.Outcome.next (s.setPc pc) : Result) = .next t) : DiffersIn {} s t :=
  ((differsIn_none s).setPc pc).next h

theorem differsIn_call {s t : State} {ret pc : Word}
    (h : (Host.Outcome.next ((s.callPush ret).setPc pc) : Result) = .next t) :
    DiffersIn { sp := true } s t :=
  ((differsIn_callPush s ret).setPc pc).next h

theorem differsIn_rts {s t : State} (h : exec .rts s = .next t) :
    DiffersIn { sp := true } s t := by
  have hexec : exec .rts s = .next (s.afterReturnPull.setPc s.returnAddress) := rfl
  rw [afterReturnPull_eq_above] at hexec
  exact ((differsIn_setSp s _).setPc _).next (hexec.symm.trans h)

theorem exists_execRtn_eq (n : Byte) (s : State) :
    ∃ sp pc, exec (.rtn n) s = .next { s with sp := sp, pc := pc } := by
  obtain ⟨_, hafter, hbefore⟩ := returnsPullTheAddress n s
  cases horder : s.cfg.rtnOrder with
  | pullThenAdjust =>
    obtain ⟨_, _, _, hexec⟩ := hafter horder
    exact ⟨_, _, hexec⟩
  | adjustThenPull =>
    obtain ⟨_, _, _, hexec⟩ := hbefore horder
    exact ⟨_, _, hexec⟩

theorem differsIn_rtn {n : Byte} {s t : State} (h : exec (.rtn n) s = .next t) :
    DiffersIn { sp := true } s t := by
  obtain ⟨sp, pc, hexec⟩ := exists_execRtn_eq n s
  exact ((differsIn_setSp s sp).setPc pc).next (hexec.symm.trans h)

theorem differsIn_brk {sig : Byte} {s t : State} (h : exec (.brk sig) s = .next t) :
    DiffersIn { sp := true, d := true, i := true } s t := by
  have hexec : exec (.brk sig) s = .next (s.trapEntry irqVector (s.pc + 2) true) := rfl
  rw [State.trapEntry_eq] at hexec
  refine DiffersIn.next ?_ (hexec.symm.trans h)
  rfl

theorem differsIn_rti {s t : State} (h : exec .rti s = .next t) :
    DiffersIn (writtenParts .rti) s t := by
  have hexec : exec .rti s = .next s.trapReturn := rfl
  rw [trapReturn_eq] at hexec
  refine DiffersIn.next ?_ (hexec.symm.trans h)
  rfl

/-- Every instruction writes its listed registers and flags only, by the operation it is made of. -/
theorem exec_differsIn {i : Instr} {s t : State} (h : exec i s = .next t) :
    DiffersIn (writtenParts i) s t := by
  cases i with
  | adcBpXInd d | adcBp d | adcImm m | adcAbs w | adcBpIndY d | adcBpIndZ d | adcBpX d | adcAbsY w
  | adcAbsX w => exact DiffersIn.retired (differsIn_adc s _) h
  | sbcBpXInd d | sbcBp d | sbcImm m | sbcAbs w | sbcBpIndY d | sbcBpIndZ d | sbcBpX d | sbcAbsY w
  | sbcAbsX w => exact DiffersIn.retired (differsIn_sbc s _) h
  | cpyImm m | cmpBpXInd d | cpzImm m | cpyBp d | cmpBp d | cmpImm m | cpyAbs w | cmpAbs w
  | cmpBpIndY d | cmpBpIndZ d | cpzBp d | cmpBpX d | cmpAbsY w | cpzAbs w | cmpAbsX w | cpxImm m
  | cpxBp d | cpxAbs w => exact DiffersIn.retired (differsIn_compare s _ _) h
  | aslBp d | aslAbs w | aslBpX d | aslAbsX w | rolBp d | rolAbs w | rolBpX d | rolAbsX w
  | asrBp d | lsrBp d | lsrAbs w | asrBpX d | lsrBpX d | lsrAbsX w | rorBp d | rorAbs w | rorBpX d
  | rorAbsX w => exact DiffersIn.retired (differsIn_shiftMem s _ _) h
  | asw w | row w => exact DiffersIn.retired (differsIn_shiftWord s _ _ _) h
  | aslA | rolA | asrA | lsrA | rorA => exact DiffersIn.retired (differsIn_shiftA s _) h
  | bitBp d | bitAbs w | bitBpX d | bitAbsX w | bitImm m =>
    exact DiffersIn.retired (differsIn_bitTest s _) h
  | tsbBp d | tsbAbs w => exact DiffersIn.retired (differsIn_testSet s _) h
  | trbBp d | trbAbs w => exact DiffersIn.retired (differsIn_testReset s _) h
  | decBp d | decAbs w | decBpX d | decAbsX w | incBp d | incAbs w | incBpX d | incAbsX w =>
    exact DiffersIn.retired (differsIn_putMem s _ _) h
  | dew d | inw d => exact DiffersIn.retired (differsIn_putWord s _ _ _) h
  | pla => exact DiffersIn.retired (differsIn_pullA s _) h
  | oraBpXInd d | oraBp d | oraImm m | oraAbs w | oraBpIndY d | oraBpIndZ d | oraBpX d | oraAbsY w
  | oraAbsX w | andBpXInd d | andBp d | andImm m | andAbs w | andBpIndY d | andBpIndZ d | andBpX d
  | andAbsY w | andAbsX w | eorBpXInd d | eorBp d | eorImm m | eorAbs w | eorBpIndY d
  | eorBpIndZ d | eorBpX d | eorAbsY w | eorAbsX w | ldaBpXInd d | ldaBp d | ldaImm m | ldaAbs w
  | ldaBpIndY d | ldaBpIndZ d | ldaBpX d | ldaAbsY w | ldaAbsX w | ldaSpIndY d | incA | decA | neg
  | tza | tba | txa | tya => exact DiffersIn.retired (differsIn_putA s _) h
  | plx => exact DiffersIn.retired (differsIn_pullX s _) h
  | ldxImm m | ldxBp d | ldxAbs w | ldxBpY d | ldxAbsY w | tax | tsx | dex | inx =>
    exact DiffersIn.retired (differsIn_putX s _) h
  | ply => exact DiffersIn.retired (differsIn_pullY s _) h
  | ldyImm m | ldyBp d | ldyAbs w | ldyBpX d | ldyAbsX w | tsy | dey | tay | iny =>
    exact DiffersIn.retired (differsIn_putY s _) h
  | plz => exact DiffersIn.retired (differsIn_pullZ s _) h
  | ldzImm m | ldzAbs w | ldzAbsX w | inz | dez | taz =>
    exact DiffersIn.retired (differsIn_putZ s _) h
  | phwImmW w | phwAbs w => exact DiffersIn.retired (differsIn_pushWord s _) h
  | php | pha | phy | phx | phz => exact DiffersIn.retired (differsIn_push s _ _) h
  | jsrAbs w | jsrAbsInd w | jsrAbsXInd w | bsr w => exact differsIn_call h
  | tys | txs => exact DiffersIn.retired (differsIn_setSp s _) h
  | rts => exact differsIn_rts h
  | rtn n => exact differsIn_rtn h
  | brk sig => exact differsIn_brk h
  | rti => exact differsIn_rti h
  | plp => exact DiffersIn.retired (differsIn_pullP s) h
  | tab => exact DiffersIn.retired (differsIn_setB s _) h
  | clc | sec => exact DiffersIn.retired (differsIn_flagC s _) h
  | cld | sed => exact DiffersIn.retired (differsIn_flagD s _) h
  | cle | see => exact DiffersIn.retired (differsIn_flagE s _) h
  | cli | sei => exact DiffersIn.retired (differsIn_flagI s _) h
  | clv => exact DiffersIn.retired (differsIn_flagV s _) h
  | rmb0 d | rmb1 d | rmb2 d | rmb3 d | rmb4 d | rmb5 d | stzBp d | rmb6 d | stzBpX d | rmb7 d
  | staBpXInd d | staSpIndY d | styBp d | staBp d | stxBp d | smb0 d | styAbsX w | styAbs w
  | staAbs w | stxAbs w | staBpIndY d | staBpIndZ d | styBpX d | staBpX d | stxBpY d | smb1 d
  | staAbsY w | stxAbsY w | stzAbs w | staAbsX w | stzAbsX w | smb2 d | smb3 d | smb4 d | smb5 d
  | smb6 d | smb7 d => exact DiffersIn.retired (differsIn_writeData s _ _) h
  | bbr0 d r | bplRel r | bplWrel w | bbr1 d r | bbr2 d r | bmiRel r | bmiWrel w | bbr3 d r
  | jmpAbs w | bbr4 d r | bvcRel r | bvcWrel w | bbr5 d r | jmpAbsInd w | bbr6 d r | bvsRel r
  | bvsWrel w | jmpAbsXInd w | bbr7 d r | bruRel r | bruWrel w | bbs0 d r | bccRel r | bccWrel w
  | bbs1 d r | bbs2 d r | bcsRel r | bcsWrel w | bbs3 d r | bbs4 d r | bneRel r | bneWrel w
  | bbs5 d r | bbs6 d r | beqRel r | beqWrel w | bbs7 d r => exact differsIn_jump h
  | aug b1 b2 b3 | nop => exact DiffersIn.retired (differsIn_none s) h

/-! ## The writers of the inventory, R20 to R35 -/

theorem written_of_ne {α : Type} {written : Bool} {new old : α}
    (h : new = if written then new else old) (hne : new ≠ old) : written = true := by
  by_contra hnot
  exact hne (h.trans (if_neg hnot))

/-- Settles O16: the table of written parts read by register. -/
theorem registerWriters : Obligations.RegisterWriters := by
  intro i s t hexec
  have h := exec_differsIn hexec
  refine ⟨?_ ∘ written_of_ne (congrArg State.a h), ?_ ∘ written_of_ne (congrArg State.x h),
    ?_ ∘ written_of_ne (congrArg State.y h), ?_ ∘ written_of_ne (congrArg State.z h),
    ?_ ∘ written_of_ne (congrArg State.b h), ?_ ∘ written_of_ne (congrArg State.sp h)⟩
  all_goals
    clear h hexec
    cases i <;> exact of_decide_eq_true rfl

theorem written_of_flag_ne {parts : Parts} {s t : State} (h : DiffersIn parts s t) :
    (t.p.n ≠ s.p.n → parts.n = true) ∧ (t.p.v ≠ s.p.v → parts.v = true) ∧
    (t.p.e ≠ s.p.e → parts.e = true) ∧ (t.p.d ≠ s.p.d → parts.d = true) ∧
    (t.p.i ≠ s.p.i → parts.i = true) ∧ (t.p.zf ≠ s.p.zf → parts.zf = true) ∧
    (t.p.c ≠ s.p.c → parts.c = true) := by
  have hp := congrArg State.p h
  exact ⟨written_of_ne (congrArg Flags.n hp), written_of_ne (congrArg Flags.v hp),
    written_of_ne (congrArg Flags.e hp), written_of_ne (congrArg Flags.d hp),
    written_of_ne (congrArg Flags.i hp), written_of_ne (congrArg Flags.zf hp),
    written_of_ne (congrArg Flags.c hp)⟩

theorem pullP_keeps_e {s : State} (hcfg : s.cfg.pullPWritesE = false) : s.pullP.p.e = s.p.e := by
  rw [pullP_eq, hcfg]
  rfl

/-- PLP and RTI leave E alone unless the platform's P writes it, D3. -/
theorem e_kept_by_pull {i : Instr} {s t : State} (hexec : exec i s = .next t)
    (hcfg : s.cfg.pullPWritesE = false) (hpull : i.mnemonic ∈ ["PLP", "RTI"]) :
    t.p.e = s.p.e := by
  cases i with
  | plp | rti =>
    obtain rfl := Host.Outcome.next.inj hexec
    exact pullP_keeps_e hcfg
  | _ => exact absurd hpull (of_decide_eq_false rfl)

/-- Settles O17: the table of written parts read by flag. -/
theorem flagWriters : Obligations.FlagWriters := by
  intro i s t hexec
  obtain ⟨hn, hv, he, hd, hi, hz, hc⟩ := written_of_flag_ne (exec_differsIn hexec)
  have hpulls (hne : t.p.e ≠ s.p.e) (hpull : i.mnemonic ∈ ["PLP", "RTI"]) :
      s.cfg.pullPWritesE = true ∧ i.mnemonic ∈ ["PLP", "RTI"] := by
    refine ⟨?_, hpull⟩
    by_contra hcfg
    exact hne (e_kept_by_pull hexec (Bool.eq_false_iff.mpr hcfg) hpull)
  have hwritesE : (writtenParts i).e = true →
      i.mnemonic ∈ ["CLE", "SEE"] ∨ i.mnemonic ∈ ["PLP", "RTI"] := by
    clear hexec hn hv he hd hi hz hc hpulls
    cases i <;> exact of_decide_eq_true rfl
  refine ⟨?_ ∘ Or.imp hn hz, ?_ ∘ hn, ?_ ∘ hv,
    fun hne => (hwritesE (he hne)).imp_right (hpulls hne), ?_ ∘ hd, ?_ ∘ hi, ?_ ∘ hc⟩
  all_goals
    clear hexec hn hv he hd hi hz hc hpulls hwritesE
    cases i <;> exact of_decide_eq_true rfl

end Sys2Proof.Claims
end
section
/-! PROOFS. Where an instruction leaves SP in byte mode (R27) and pc (R92). -/

namespace Sys2Proof.Claims

open Sys2Proof.Machine

/-! ## SP, R26 to R28 -/

/-- SP is some steps below or above where it was. -/
def SpStepped (s t : State) : Prop := ∃ k, t.sp = below s k ∨ t.sp = above s k

theorem spStepped_of_push {s t : State} {len : Word} {slot : BusSlot} {v : Byte}
    (h : retire s len (s.push slot v) = .next t) : SpStepped s t := by
  rw [push_eq_storeAll] at h
  obtain rfl := Host.Outcome.next.inj h
  exact ⟨1, .inl rfl⟩

theorem pushWord_sp (s : State) (w : Word) : (s.pushWord w).sp = below s 2 := by
  cases horder : s.cfg.phwOrder with
  | highFirst =>
    rw [pushWord_highFirst horder, push_push_eq_storeAll]
    rfl
  | lowFirst =>
    rw [pushWord_lowFirst horder, push_push_eq_storeAll]
    rfl

theorem spStepped_of_pushWord {s t : State} {len w : Word}
    (h : retire s len (s.pushWord w) = .next t) : SpStepped s t := by
  have hsp := pushWord_sp s w
  obtain rfl := Host.Outcome.next.inj h
  exact ⟨2, .inl hsp⟩

theorem spStepped_of_call {s t : State} {ret pc : Word}
    (h : (Host.Outcome.next ((s.callPush ret).setPc pc) : Result) = .next t) : SpStepped s t := by
  rw [callPush_eq_storeAll] at h
  obtain rfl := Host.Outcome.next.inj h
  exact ⟨2, .inl rfl⟩

theorem spStepped_of_brk {s t : State} {sig : Byte} (h : exec (.brk sig) s = .next t) :
    SpStepped s t := by
  have hexec : exec (.brk sig) s = .next (s.trapEntry irqVector (s.pc + 2) true) := rfl
  rw [trapEntry_eq_trapped] at hexec
  obtain rfl := Host.Outcome.next.inj (hexec.symm.trans h)
  exact ⟨3, .inl rfl⟩

theorem spStepped_of_pull {s t : State} (h : t.sp = s.incSp.sp) : SpStepped s t := by
  rw [incSp_eq] at h
  exact ⟨1, .inr h⟩

theorem spStepped_of_rts {s t : State} (h : exec .rts s = .next t) : SpStepped s t := by
  have hexec : exec .rts s = .next (s.afterReturnPull.setPc s.returnAddress) := rfl
  rw [afterReturnPull_eq_above] at hexec
  obtain rfl := Host.Outcome.next.inj (hexec.symm.trans h)
  exact ⟨2, .inr rfl⟩

theorem spStepped_of_rtn {s t : State} {n : Byte} (h : exec (.rtn n) s = .next t) :
    SpStepped s t := by
  obtain ⟨_, hafter, hbefore⟩ := returnsPullTheAddress n s
  cases horder : s.cfg.rtnOrder with
  | pullThenAdjust =>
    obtain ⟨_, _, _, hexec⟩ := hafter horder
    exact ⟨_, .inr (congrArg State.sp (Host.Outcome.next.inj (hexec.symm.trans h))).symm⟩
  | adjustThenPull =>
    obtain ⟨_, _, _, hexec⟩ := hbefore horder
    exact ⟨_, .inr (congrArg State.sp (Host.Outcome.next.inj (hexec.symm.trans h))).symm⟩

/-- SP after every instruction but the transfers into it and RTI. -/
theorem exec_sp {i : Instr} {s t : State} (h : exec i s = .next t) :
    t.sp = s.sp ∨ SpStepped s t ∨ i = .txs ∨ i = .tys ∨ i = .rti := by
  by_cases hwritten : (writtenParts i).sp = true
  · refine .inr ?_
    cases i with
    | txs => exact .inr (.inl rfl)
    | tys => exact .inr (.inr (.inl rfl))
    | rti => exact .inr (.inr (.inr rfl))
    | php | pha | phx | phy | phz => exact .inl (spStepped_of_push h)
    | phwImmW w | phwAbs w => exact .inl (spStepped_of_pushWord h)
    | jsrAbs w | jsrAbsInd w | jsrAbsXInd w | bsr w => exact .inl (spStepped_of_call h)
    | pla | plx | ply | plz | plp =>
      exact .inl (spStepped_of_pull (congrArg State.sp (Host.Outcome.next.inj h)).symm)
    | rts => exact .inl (spStepped_of_rts h)
    | rtn n => exact .inl (spStepped_of_rtn h)
    | brk sig => exact .inl (spStepped_of_brk h)
    | _ => cases hwritten
  · exact .inl ((congrArg State.sp (exec_differsIn h)).trans (if_neg hwritten))

/-! ## The stack page in byte mode, R27 -/

theorem hiByte_below {s : State} (he : s.p.e = true) (k : Nat) : hiByte (below s k) = s.sph := by
  apply BitVec.eq_of_toNat_eq
  rw [hiByte_toNat, below_toNat, if_pos he, State.sph, hiByte_toNat]
  omega

theorem hiByte_upFrom (sp : Word) (k : Nat) : hiByte (upFrom true sp k) = hiByte sp := by
  apply BitVec.eq_of_toNat_eq
  rw [hiByte_toNat, upFrom_toNat, if_pos rfl, hiByte_toNat]
  omega

theorem hiByte_above {s : State} (he : s.p.e = true) (k : Nat) : hiByte (above s k) = s.sph := by
  rw [above, he, hiByte_upFrom, State.sph]

theorem sph_of_spStepped {s t : State} (he : s.p.e = true) (h : SpStepped s t) :
    t.sph = s.sph := by
  obtain ⟨k, hbelow | habove⟩ := h
  · rw [State.sph, hbelow, hiByte_below he]
  · rw [State.sph, habove, hiByte_above he]

theorem sph_of_rti {s t : State} (he : s.p.e = true) (hcfg : s.cfg.pullPWritesE = false)
    (h : exec .rti s = .next t) : t.sph = s.sph := by
  obtain ⟨_, _, _, hexec⟩ := returnFromInterruptRestores s
  obtain rfl := Host.Outcome.next.inj (hexec.symm.trans h)
  have hkept : (loadP s.p s.cfg.pullPWritesE (s.read .pull1 (above s 1))).e = true := by
    rw [hcfg]
    exact he
  show hiByte (upFrom (loadP s.p s.cfg.pullPWritesE (s.read .pull1 (above s 1))).e
    (above s 1) 2) = s.sph
  rw [hkept, hiByte_upFrom, hiByte_above he]

/-- Settles O18: pushes and pulls step inside the page, TXS writes the other half of SP. -/
theorem stackPageKeptInByteMode : Obligations.StackPageKeptInByteMode := by
  intro i s t hexec he htys hrti
  rcases exec_sp hexec with hkept | hstepped | rfl | rfl | rfl
  · rw [State.sph, hkept, State.sph]
  · exact sph_of_spStepped he hstepped
  · obtain rfl := Host.Outcome.next.inj hexec
    exact hiByte_wordOf s.sph s.x
  · exact absurd rfl htys
  · exact sph_of_rti he (hrti rfl) hexec

/-! ## The program counter, R92 -/

/-- An instruction that is no branch, jump, call, return or trap ends by retiring its own bytes. -/
theorem exec_retires {i : Instr} (s : State) (hrel : i.mode ≠ .rel) (hwrel : i.mode ≠ .wrel)
    (hbpRel : i.mode ≠ .bpRel)
    (hcontrol : i.mnemonic ∉ ["JMP", "JSR", "RTS", "RTN", "RTI", "BRK"]) :
    ∃ t, exec i s = retire s (BitVec.ofNat 16 (encode i).length) t := by
  cases i with
  | bplRel r | bmiRel r | bvcRel r | bvsRel r | bruRel r | bccRel r | bcsRel r | bneRel r
  | beqRel r => exact absurd rfl hrel
  | bplWrel w | bmiWrel w | bvcWrel w | bvsWrel w | bruWrel w | bccWrel w | bcsWrel w | bneWrel w
  | beqWrel w | bsr w => exact absurd rfl hwrel
  | bbr0 d r | bbr1 d r | bbr2 d r | bbr3 d r | bbr4 d r | bbr5 d r | bbr6 d r | bbr7 d r
  | bbs0 d r | bbs1 d r | bbs2 d r | bbs3 d r | bbs4 d r | bbs5 d r | bbs6 d r | bbs7 d r =>
    exact absurd rfl hbpRel
  | jmpAbs w | jmpAbsInd w | jmpAbsXInd w | jsrAbs w | jsrAbsInd w | jsrAbsXInd w | rts | rtn n
  | rti | brk sig => exact absurd (of_decide_eq_true rfl) hcontrol
  | _ => exact ⟨_, rfl⟩

/-- Settles O19. -/
theorem pcAdvancesByLength : Obligations.PcAdvancesByLength := by
  intro i s t hexec hrel hwrel hbpRel hcontrol
  obtain ⟨u, hretires⟩ := exec_retires s hrel hwrel hbpRel hcontrol
  have ht := Host.Outcome.next.inj (hretires.symm.trans hexec)
  obtain ⟨hpos, hfour⟩ := opcodeLength_bounds i.opcode
  refine ⟨?_, hpos, hfour⟩
  rw [← length_encode, ← pc_add_eq_pcAfter]
  exact (congrArg State.pc ht).symm

end Sys2Proof.Claims
end
section
/-! PROOFS. The bus cycles of an instruction in one order: reads and writes merged by their slots, for any
lists of them, and what slots each instruction uses (R60 to R67, D10). -/

namespace Sys2Proof.Claims

open Sys2Proof.Machine

/-! ## Merging cycles by slot, R67 -/

/-- One cycle comes before another. -/
abbrev Precedes (c e : BusCycle) : Prop := slotRank c.slot < slotRank e.slot

theorem insertCycle_perm (c : BusCycle) (cycles : List BusCycle) :
    (insertCycle c cycles).Perm (c :: cycles) := by
  induction cycles with
  | nil => exact .refl _
  | cons x xs ih =>
    rw [insertCycle]
    split
    · exact .refl _
    · exact (ih.cons x).trans (.swap c x xs)

theorem pairwise_insertCycle {c : BusCycle} {cycles : List BusCycle}
    (hsorted : cycles.Pairwise Precedes)
    (hnew : ∀ x ∈ cycles, slotRank c.slot ≠ slotRank x.slot) :
    (insertCycle c cycles).Pairwise Precedes := by
  induction cycles with
  | nil => exact List.pairwise_singleton _ _
  | cons x xs ih =>
    obtain ⟨hfirst, hrest⟩ := List.pairwise_cons.mp hsorted
    rw [insertCycle]
    split
    next hlt =>
      refine List.pairwise_cons.mpr ⟨fun e he => ?_, hsorted⟩
      rcases List.mem_cons.mp he with rfl | he
      · exact hlt
      · exact hlt.trans (hfirst e he)
    next hge =>
      have hne := hnew x List.mem_cons_self
      have hxc : Precedes x c := by
        show slotRank x.slot < slotRank c.slot
        omega
      refine List.pairwise_cons.mpr
        ⟨fun e he => ?_, ih hrest fun e he => hnew e (List.mem_cons_of_mem x he)⟩
      rcases List.mem_cons.mp ((insertCycle_perm c xs).mem_iff.mp he) with rfl | he
      · exact hxc
      · exact hfirst e he

theorem insertCycle_append {c : BusCycle} {first : List BusCycle}
    (h : ∀ x ∈ first, Precedes x c) (rest : List BusCycle) :
    insertCycle c (first ++ rest) = first ++ insertCycle c rest := by
  induction first with
  | nil => rfl
  | cons x first ih =>
    have hx : ¬ slotRank c.slot < slotRank x.slot := (h x List.mem_cons_self).not_gt
    rw [List.cons_append, insertCycle, if_neg hx,
      ih fun e he => h e (List.mem_cons_of_mem x he), List.cons_append]

theorem mergeCycles_perm (reads writes : List BusCycle) :
    (mergeCycles reads writes).Perm (writes ++ reads) := by
  induction writes generalizing reads with
  | nil => exact .refl _
  | cons w ws ih =>
    exact (ih (insertCycle w reads)).trans
      (((insertCycle_perm w reads).append_left ws).trans List.perm_middle)

theorem pairwise_mergeCycles {reads writes : List BusCycle} (hsorted : reads.Pairwise Precedes)
    (hnodup : ((writes ++ reads).map fun c => slotRank c.slot).Nodup) :
    (mergeCycles reads writes).Pairwise Precedes := by
  induction writes generalizing reads with
  | nil => exact hsorted
  | cons w ws ih =>
    have hmoved : (ws ++ insertCycle w reads).Perm (w :: ws ++ reads) :=
      ((insertCycle_perm w reads).append_left ws).trans List.perm_middle
    have hnew := (List.nodup_cons.mp hnodup).1
    refine ih (pairwise_insertCycle hsorted fun x hx heq => hnew ?_)
      ((hmoved.map _).nodup_iff.mpr hnodup)
    exact List.mem_map.mpr ⟨x, List.mem_append_right ws hx, heq.symm⟩

theorem mergeCycles_append {first writes : List BusCycle}
    (h : ∀ w ∈ writes, ∀ x ∈ first, Precedes x w) (rest : List BusCycle) :
    mergeCycles (first ++ rest) writes = first ++ mergeCycles rest writes := by
  induction writes generalizing rest with
  | nil => rfl
  | cons w ws ih =>
    rw [mergeCycles, insertCycle_append (h w List.mem_cons_self),
      ih fun e he => h e (List.mem_cons_of_mem w he), mergeCycles]

/-! ## The fetch, R92 -/

/-- The slots of a fetch. -/
def fetchSlots : List BusSlot := [.opcode, .operand1, .operand2, .operand3]

/-- The `k`-th cycle of a fetch, as the statements write it. -/
def fetchCycle (s : State) (k : Nat) : BusCycle :=
  { slot := [BusSlot.opcode, .operand1, .operand2, .operand3].getD k .opcode
    address := BitVec.ofNat 16 (s.pc.toNat + k)
    write := false
    data := none
    ready := true }

theorem fetchCycles_eq {n : Nat} (hn : n ≤ 4) (s : State) :
    fetchCycles n s = (List.range n).map (fetchCycle s) := by
  have h0 : s.pc = pcAfter s 0 := (pc_add_eq_pcAfter s 0 ▸ BitVec.add_zero s.pc).symm
  have h1 : s.pc + 1 = pcAfter s 1 := pc_add_eq_pcAfter s 1
  have h2 : s.pc + 2 = pcAfter s 2 := pc_add_eq_pcAfter s 2
  have h3 : s.pc + 3 = pcAfter s 3 := pc_add_eq_pcAfter s 3
  have hfour : [readCycle .opcode s.pc, readCycle .operand1 (s.pc + 1),
      readCycle .operand2 (s.pc + 2), readCycle .operand3 (s.pc + 3)] =
      (List.range 4).map (fetchCycle s) := by
    rw [h1, h2, h3]
    exact congrArg (fun a => readCycle .opcode a :: _) h0
  rw [fetchCycles, hfour, ← List.map_take, List.take_range, Nat.min_eq_left hn]

/-! ## The slots of each instruction -/

/-- A cycle in which the processor drives nothing and RDY is high. -/
def isPlainRead (c : BusCycle) : Bool := !c.write && c.data.isNone && c.ready

/-- These reads after the fetch and these writes can be put in one order with it, the writes after the
fetch. -/
abbrev SlotsFit (fetch reads writes : List BusSlot) : Prop :=
  (fetch ++ reads).Pairwise (fun j k => slotRank j < slotRank k) ∧
  ((writes ++ (fetch ++ reads)).map slotRank).Nodup ∧
  ∀ j ∈ writes, ∀ k ∈ fetch, slotRank k < slotRank j

/-- The cycles of an instruction are the fetch of its bytes, then reads, with its writes at slots of their
own; they are as many as the matrix has room for, ROW's excepted. -/
structure CyclesFit (i : Instr) (s : State) (n : Nat) (reads writes : List BusSlot) : Prop where
  length_eq : i.length = n
  fetch_eq : (readCycles i s).take n = fetchCycles n s
  slots_eq : (readCycles i s).map (fun c => c.slot) = fetchSlots.take n ++ reads
  plain : (readCycles i s).all isPlainRead = true
  writes_eq : writeSlots i = writes
  fit : SlotsFit (fetchSlots.take n) reads writes
  room : i.mnemonic ≠ "ROW" → n + reads.length + writes.length ≤ i.cycles

theorem cyclesFit_of {i : Instr} {s : State} {op : Byte} {operands : List Byte}
    (reads writes : List BusSlot) (henc : encode i = op :: operands)
    (hfetch : (readCycles i s).take (opcodeLength op) = fetchCycles (opcodeLength op) s)
    (hslots : (readCycles i s).map (fun c => c.slot) =
      fetchSlots.take (opcodeLength op) ++ reads)
    (hplain : (readCycles i s).all isPlainRead = true) (hwrites : writeSlots i = writes)
    (hfit : SlotsFit (fetchSlots.take (opcodeLength op)) reads writes)
    (hroom : i.mnemonic ≠ "ROW" →
      opcodeLength op + reads.length + writes.length ≤ opcodeCycles op) :
    ∃ n reads writes, CyclesFit i s n reads writes := by
  have hop : i.opcode = op := by rw [Instr.opcode, henc, List.headD_cons]
  exact ⟨opcodeLength op, reads, writes, congrArg opcodeLength hop, hfetch, hslots, hplain,
    hwrites, hfit, fun h => (hroom h).trans_eq (congrArg opcodeCycles hop).symm⟩

theorem exists_rtnCycles_eq (n : Byte) (s : State) : ∃ u, rtnCycles n s = returnCycles u := by
  rw [rtnCycles]
  split <;> exact ⟨_, rfl⟩

theorem exists_cyclesFit_rtn (n : Byte) (s : State) :
    ∃ len reads writes, CyclesFit (.rtn n) s len reads writes := by
  obtain ⟨u, hu⟩ := exists_rtnCycles_eq n s
  have hread : readCycles (.rtn n) s = fetchCycles 2 s ++ returnCycles u :=
    congrArg (fetchCycles 2 s ++ ·) hu
  exact cyclesFit_of (op := 0x62) (operands := [n]) [.pull1, .pull2] [] rfl
    (by rw [hread]; rfl) (by rw [hread]; rfl) (by rw [hread]; rfl) rfl (of_decide_eq_true rfl)
    fun _ => of_decide_eq_true rfl

/-- Every instruction, by the slots of its reads and writes. -/
theorem exists_cyclesFit (i : Instr) (s : State) :
    ∃ n reads writes, CyclesFit i s n reads writes := by
  cases i with
  | rtn n => exact exists_cyclesFit_rtn n s
  | row w =>
    exact cyclesFit_of [.dataLo, .dataHi] [.writeLo, .writeHi]
      rfl rfl rfl rfl rfl (of_decide_eq_true rfl) fun hrow => absurd rfl hrow
  | brk sig =>
    exact cyclesFit_of [.vectorLo, .vectorHi] [.push1, .push2, .push3]
      rfl rfl rfl rfl rfl (of_decide_eq_true rfl) fun _ => of_decide_eq_true rfl
  | oraBpXInd d | oraBpIndY d | oraBpIndZ d | andBpXInd d | andBpIndY d | andBpIndZ d
  | eorBpXInd d | eorBpIndY d | eorBpIndZ d | adcBpXInd d | adcBpIndY d | adcBpIndZ d
  | ldaBpXInd d | ldaBpIndY d | ldaBpIndZ d | cmpBpXInd d | cmpBpIndY d | cmpBpIndZ d
  | sbcBpXInd d | ldaSpIndY d | sbcBpIndY d | sbcBpIndZ d =>
    exact cyclesFit_of [.pointerLo, .pointerHi, .dataLo] []
      rfl rfl rfl rfl rfl (of_decide_eq_true rfl) fun _ => of_decide_eq_true rfl
  | tsbBp d | aslBp d | rmb0 d | tsbAbs w | aslAbs w | trbBp d | aslBpX d | rmb1 d | trbAbs w
  | aslAbsX w | rolBp d | rmb2 d | rolAbs w | rolBpX d | rmb3 d | rolAbsX w | asrBp d | lsrBp d
  | rmb4 d | lsrAbs w | asrBpX d | lsrBpX d | rmb5 d | lsrAbsX w | rorBp d | rmb6 d | rorAbs w
  | rorBpX d | rmb7 d | rorAbsX w | smb0 d | smb1 d | smb2 d | smb3 d | decBp d | smb4 d
  | decAbs w | decBpX d | smb5 d | decAbsX w | incBp d | smb6 d | incAbs w | incBpX d | smb7 d
  | incAbsX w =>
    exact cyclesFit_of [.dataLo] [.writeLo]
      rfl rfl rfl rfl rfl (of_decide_eq_true rfl) fun _ => of_decide_eq_true rfl
  | oraBp d | oraAbs w | bbr0 d r | oraBpX d | oraAbsY w | oraAbsX w | bbr1 d r | bitBp d
  | andBp d | bitAbs w | andAbs w | bbr2 d r | bitBpX d | andBpX d | andAbsY w | bitAbsX w
  | andAbsX w | bbr3 d r | eorBp d | eorAbs w | bbr4 d r | eorBpX d | eorAbsY w | eorAbsX w
  | bbr5 d r | adcBp d | adcAbs w | bbr6 d r | adcBpX d | adcAbsY w | adcAbsX w | bbr7 d r
  | bbs0 d r | bbs1 d r | ldyBp d | ldaBp d | ldxBp d | ldzAbs w | ldyAbs w | ldaAbs w | ldxAbs w
  | bbs2 d r | ldyBpX d | ldaBpX d | ldxBpY d | ldaAbsY w | ldzAbsX w | ldyAbsX w | ldaAbsX w
  | ldxAbsY w | bbs3 d r | cpyBp d | cmpBp d | cpyAbs w | cmpAbs w | bbs4 d r | cpzBp d | cmpBpX d
  | cmpAbsY w | cpzAbs w | cmpAbsX w | bbs5 d r | cpxBp d | sbcBp d | cpxAbs w | sbcAbs w
  | bbs6 d r | sbcBpX d | sbcAbsY w | sbcAbsX w | bbs7 d r =>
    exact cyclesFit_of [.dataLo] []
      rfl rfl rfl rfl rfl (of_decide_eq_true rfl) fun _ => of_decide_eq_true rfl
  | jsrAbs w | bsr w | phwImmW w =>
    exact cyclesFit_of [] [.push1, .push2]
      rfl rfl rfl rfl rfl (of_decide_eq_true rfl) fun _ => of_decide_eq_true rfl
  | jsrAbsInd w | jsrAbsXInd w =>
    exact cyclesFit_of [.pointerLo, .pointerHi] [.push1, .push2]
      rfl rfl rfl rfl rfl (of_decide_eq_true rfl) fun _ => of_decide_eq_true rfl
  | rts =>
    exact cyclesFit_of [.pull1, .pull2] []
      rfl rfl rfl rfl rfl (of_decide_eq_true rfl) fun _ => of_decide_eq_true rfl
  | stzBp d | stzBpX d | styBp d | staBp d | stxBp d | styAbsX w | styAbs w | staAbs w | stxAbs w
  | styBpX d | staBpX d | stxBpY d | staAbsY w | stxAbsY w | stzAbs w | staAbsX w | stzAbsX w =>
    exact cyclesFit_of [] [.writeLo]
      rfl rfl rfl rfl rfl (of_decide_eq_true rfl) fun _ => of_decide_eq_true rfl
  | jmpAbsInd w | jmpAbsXInd w =>
    exact cyclesFit_of [.pointerLo, .pointerHi] []
      rfl rfl rfl rfl rfl (of_decide_eq_true rfl) fun _ => of_decide_eq_true rfl
  | staBpXInd d | staSpIndY d | staBpIndY d | staBpIndZ d =>
    exact cyclesFit_of [.pointerLo, .pointerHi] [.writeLo]
      rfl rfl rfl rfl rfl (of_decide_eq_true rfl) fun _ => of_decide_eq_true rfl
  | dew d | asw w | inw d =>
    exact cyclesFit_of [.dataLo, .dataHi] [.writeLo, .writeHi]
      rfl rfl rfl rfl rfl (of_decide_eq_true rfl) fun _ => of_decide_eq_true rfl
  | phwAbs w =>
    exact cyclesFit_of [.sourceLo, .sourceHi] [.push1, .push2]
      rfl rfl rfl rfl rfl (of_decide_eq_true rfl) fun _ => of_decide_eq_true rfl
  | php | pha | phy | phx | phz =>
    exact cyclesFit_of [] [.push1]
      rfl rfl rfl rfl rfl (of_decide_eq_true rfl) fun _ => of_decide_eq_true rfl
  | plp | pla | ply | plx | plz =>
    exact cyclesFit_of [.pull1] []
      rfl rfl rfl rfl rfl (of_decide_eq_true rfl) fun _ => of_decide_eq_true rfl
  | rti =>
    exact cyclesFit_of [.pull1, .pull2, .pull3] []
      rfl rfl rfl rfl rfl (of_decide_eq_true rfl) fun _ => of_decide_eq_true rfl
  | _ =>
    exact cyclesFit_of [] []
      rfl rfl rfl rfl rfl (of_decide_eq_true rfl) fun _ => of_decide_eq_true rfl

/-! ## The cycles of an instruction, merged -/

/-- The write cycles of an instruction that began with an empty record. -/
theorem exec_writeCycles {i : Instr} {s t : State} (hbus : s.bus = [])
    (h : exec i s = .next t) : t.bus.map (fun c => c.slot) = writeSlots i ∧
      ∀ c ∈ t.bus, c.ready = true ∧ c.data.isSome = true ∧ c.write = true := by
  obtain ⟨cells, _, hslots, honly⟩ := exec_stores h
  have hbus' : t.bus = cells.map cycleOf := by
    rw [honly, storeAll_eq, hbus]
    rfl
  rw [hbus']
  refine ⟨?_, fun c hc => ?_⟩
  · rw [List.map_map, ← hslots]
    rfl
  · obtain ⟨cell, _, rfl⟩ := List.mem_map.mp hc
    exact ⟨rfl, rfl, rfl⟩

theorem isPlainRead_iff (c : BusCycle) :
    isPlainRead c = true ↔ c.write = false ∧ c.data = none ∧ c.ready = true := by
  simp only [isPlainRead, Bool.and_eq_true, Bool.not_eq_true', Option.isNone_iff_eq_none, and_assoc]

theorem pairwise_precedes_iff (cycles : List BusCycle) : cycles.Pairwise Precedes ↔
    (cycles.map fun c => c.slot).Pairwise fun j k => slotRank j < slotRank k := by
  rw [List.pairwise_map]

theorem map_slotRank (cycles : List BusCycle) :
    (cycles.map fun c => slotRank c.slot) = (cycles.map fun c => c.slot).map slotRank := by
  rw [List.map_map]
  rfl

section
variable {i : Instr} {s : State} {n : Nat} {reads writes : List BusSlot} {bus : List BusCycle}

theorem CyclesFit.pairwise (h : CyclesFit i s n reads writes)
    (hbus : bus.map (fun c => c.slot) = writes) :
    (mergeCycles (readCycles i s) bus).Pairwise Precedes := by
  obtain ⟨hsorted, hnodup, _⟩ := h.fit
  refine pairwise_mergeCycles ((pairwise_precedes_iff _).mpr (h.slots_eq ▸ hsorted)) ?_
  rw [map_slotRank, List.map_append, hbus, h.slots_eq]
  exact hnodup

theorem fetchCycles_slots (n : Nat) (s : State) :
    (fetchCycles n s).map (fun c => c.slot) = fetchSlots.take n :=
  List.map_take

theorem CyclesFit.starts_with_fetch (h : CyclesFit i s n reads writes)
    (hbus : bus.map (fun c => c.slot) = writes) :
    ∃ rest, mergeCycles (readCycles i s) bus = fetchCycles n s ++ rest := by
  obtain ⟨_, _, hafter⟩ := h.fit
  have hsplit := List.take_append_drop n (readCycles i s)
  rw [h.fetch_eq] at hsplit
  refine ⟨_, hsplit ▸ mergeCycles_append (fun w hw x hx => hafter w.slot ?_ x.slot ?_) _⟩
  · rw [← hbus]
    exact List.mem_map.mpr ⟨w, hw, rfl⟩
  · rw [← fetchCycles_slots n s]
    exact List.mem_map.mpr ⟨x, hx, rfl⟩

theorem CyclesFit.length_le (h : CyclesFit i s n reads writes)
    (hbus : bus.map (fun c => c.slot) = writes) (hrow : i.mnemonic ≠ "ROW") :
    (mergeCycles (readCycles i s) bus).length ≤ i.cycles := by
  have hreads := congrArg List.length h.slots_eq
  have hwrites := congrArg List.length hbus
  have hfetch := List.length_take_le n fetchSlots
  have hroom := h.room hrow
  rw [List.length_map, List.length_append] at hreads
  rw [List.length_map] at hwrites
  rw [(mergeCycles_perm _ _).length_eq, List.length_append]
  omega

theorem CyclesFit.driven (h : CyclesFit i s n reads writes)
    (hbus : ∀ c ∈ bus, c.ready = true ∧ c.data.isSome = true ∧ c.write = true) :
    ∀ c ∈ mergeCycles (readCycles i s) bus, c.ready = true ∧ c.data.isSome = c.write := by
  intro c hc
  rcases List.mem_append.mp ((mergeCycles_perm _ _).mem_iff.mp hc) with hwrite | hread
  · obtain ⟨hready, hdata, hdriven⟩ := hbus c hwrite
    exact ⟨hready, hdata.trans hdriven.symm⟩
  · obtain ⟨hwrite, hdata, hready⟩ :=
      (isPlainRead_iff c).mp (List.all_eq_true.mp h.plain c hread)
    exact ⟨hready, by rw [hdata, hwrite, Option.isSome_none]⟩

end

/-- Nothing but the first of rising cycles is an opcode fetch: no slot comes before it. -/
theorem sync_of_mem_drop_one {cycles : List BusCycle} (h : cycles.Pairwise Precedes) :
    ∀ c ∈ cycles.drop 1, c.sync = false := by
  cases cycles with
  | nil => nofun
  | cons x xs =>
    intro c hc
    have hlt := (List.pairwise_cons.mp h).1 c hc
    have hne : c.slot ≠ .opcode := fun hslot => by
      rw [Precedes, hslot] at hlt
      exact Nat.not_lt_zero _ hlt
    exact beq_eq_false_iff_ne.mpr hne

/-- Settles O5. -/
theorem busCyclesStartWithOpcodeFetch : Obligations.BusCyclesStartWithOpcodeFetch := by
  intro i s t hbus hexec
  obtain ⟨n, reads, writes, hfit⟩ := exists_cyclesFit i s
  obtain ⟨hslots, hdriven⟩ := exec_writeCycles hbus hexec
  have hwrites := hslots.trans hfit.writes_eq
  have hsorted := hfit.pairwise hwrites
  have hn : n ≤ 4 := hfit.length_eq ▸ (opcodeLength_bounds i.opcode).2
  obtain ⟨rest, hfetch⟩ := hfit.starts_with_fetch hwrites
  have hlen : (fetchCycles n s).length = n := by
    rw [fetchCycles_eq hn, List.length_map, List.length_range]
  refine ⟨?_, sync_of_mem_drop_one hsorted, hsorted, hfit.driven hdriven, hfit.length_le hwrites⟩
  rw [hfit.length_eq, hfetch, List.take_left' hlen]
  exact fetchCycles_eq hn s

end Sys2Proof.Claims
end
